-- ==== Sys2Proof/Word.lean ====
section
/-! DEFINITION. The two word types of the machine: a byte of memory and a 32-bit register, address or
command word (00_scope.md R10: "Every register is 32 bits wide"; 20_memory.md R60: byte-addressed memory). -/

namespace Sys2Proof

/-- One byte of memory (20_memory.md R60). -/
abbrev Byte := BitVec 8

/-- A register, an address or a command word: 32 bits (00_scope.md R10, 30_encoding.md R90). -/
abbrev Word := BitVec 32

end Sys2Proof
end

