-- ==== Sys2Proof/Syntax.lean ====
section
/-! DEFINITION. The instructions: one constructor per row of spec/opcode_table.json (30_encoding.md R95, R98),
and the raw forms they are decoded from. A CMD row stands for the host write of its word to CMD
(30_encoding.md R99); an MMIO row is a host access to one register (R98). -/

namespace Sys2Proof

/-- The DEPTH bit of a command (30_encoding.md R91): 0 narrow (8-bit samples), 1 wide (16-bit units). -/
inductive Depth where
  | narrow
  | wide
deriving DecidableEq, Repr

/-- STATUS.ERRCODE (60_exceptions.md R231). Codes 5 to 15 are never produced and have no value here. -/
inductive ErrCode where
  | none
  | unsupportedShape
  | reservedCmd
  | misaligned
  | busError
deriving DecidableEq, Repr

/-- What decoding a command word yields at acceptance (30_encoding.md R94). -/
inductive Decoded where
  | op (w h : Nat) (depth : Depth)
  | reject (code : ErrCode)
deriving DecidableEq, Repr

/-- What the host puts on the bus, before decoding: a CMD-format word (the host line `OBMCSAD.…`, a write of
that word to CMD, 30_encoding.md R99), or a register access of any direction, offset from BLOCK_BASE, size
in bytes and data (R98; forms outside the format are what 42_host_access.md R212 leaves without meaning). -/
inductive Request where
  | command (word : Word)
  | access (write : Bool) (offset size : Nat) (data : Word)
deriving DecidableEq, Repr

/-- Why a request is not in the access format (42_host_access.md R212). -/
inductive DecodeError where
  | accessSize
  | accessUnaligned
  | accessOutsideWindow
deriving DecidableEq, Repr

/-- The instructions, in the order of spec/opcode_table.json. The rejection rows carry the word written to CMD
(10_state.md R34: CMD reads it back); the write rows carry their data. -/
inductive Instr where
  | rejectReservedBit17 (word : Word)
  | rejectReservedBit18 (word : Word)
  | rejectReservedBit19 (word : Word)
  | rejectReservedBit20 (word : Word)
  | rejectReservedBit21 (word : Word)
  | rejectReservedBit22 (word : Word)
  | rejectReservedBit23 (word : Word)
  | rejectReservedBit24 (word : Word)
  | rejectReservedBit25 (word : Word)
  | rejectReservedBit26 (word : Word)
  | rejectReservedBit27 (word : Word)
  | rejectReservedBit28 (word : Word)
  | rejectReservedBit29 (word : Word)
  | rejectReservedBit30 (word : Word)
  | rejectReservedBit31 (word : Word)
  | obmcsad8_4x4
  | obmcsad16_4x4
  | obmcsad8_8x8
  | obmcsad16_8x8
  | obmcsad8_16x16
  | obmcsad16_16x16
  | obmcsad8_32x32
  | obmcsad16_32x32
  | obmcsad8_64x64
  | obmcsad16_64x64
  | obmcsad8_4x8
  | obmcsad16_4x8
  | obmcsad8_8x4
  | obmcsad16_8x4
  | obmcsad8_8x16
  | obmcsad16_8x16
  | obmcsad8_16x8
  | obmcsad16_16x8
  | obmcsad8_16x32
  | obmcsad16_16x32
  | obmcsad8_32x16
  | obmcsad16_32x16
  | obmcsad8_32x64
  | obmcsad16_32x64
  | obmcsad8_64x32
  | obmcsad16_64x32
  | obmcsad8_128x128
  | obmcsad16_128x128
  | obmcsad8_128x64
  | obmcsad16_128x64
  | obmcsad8_64x128
  | obmcsad16_64x128
  | rejectUnsupportedShape (word : Word)
  | rdCap
  | rdCtrl
  | rdStatus
  | rdCmd
  | rdResult
  | rdErraddr
  | rdRefBase
  | rdRefStride
  | rdWsrcBase
  | rdMskBase
  | wrCap (data : Word)
  | wrCtrl (data : Word)
  | wrStatus (data : Word)
  | wrCmd (word : Word)
  | wrResult (data : Word)
  | wrErraddr (data : Word)
  | wrRefBase (data : Word)
  | wrRefStride (data : Word)
  | wrWsrcBase (data : Word)
  | wrMskBase (data : Word)
  | rdReserved28
  | wrReserved28 (data : Word)
  | rdReserved2C
  | wrReserved2C (data : Word)
  | rdReserved30
  | wrReserved30 (data : Word)
  | rdReserved34
  | wrReserved34 (data : Word)
  | rdReserved38
  | wrReserved38 (data : Word)
  | rdReserved3C
  | wrReserved3C (data : Word)
deriving DecidableEq, Repr

end Sys2Proof
end

