-- ==== Sys2Proof/Decode.lean ====
section
/-! DEFINITION. The block-size catalog, decoding and encoding (30_encoding.md R90 to R98): the fields of a command
word, the engine's Decode (R94), the opcode table's rows in their priority order, the decoder of a request
(total, refusing by name) and the encoder, written from the words of R95 and the keys of R98. -/

namespace Sys2Proof

/-- W = word[7:0], zero-extended (30_encoding.md R91, R92). -/
def fieldW (word : Word) : Nat := (word.extractLsb' 0 8).toNat

/-- H = word[15:8], zero-extended (30_encoding.md R91, R92). -/
def fieldH (word : Word) : Nat := (word.extractLsb' 8 8).toNat

/-- DEPTH = word[16] (30_encoding.md R91, R92). -/
def fieldDepth (word : Word) : Depth := if word.getLsbD 16 then .wide else .narrow

/-- RSVD = word[31:17] (30_encoding.md R91). -/
def fieldReserved (word : Word) : Nat := (word.extractLsb' 17 15).toNat

/-- The 13 shapes that are always supported, width first (30_encoding.md R93). -/
def baseShapes : List (Nat × Nat) :=
  [(4, 4), (8, 8), (16, 16), (32, 32), (64, 64), (4, 8), (8, 4), (8, 16), (16, 8), (16, 32), (32, 16),
    (32, 64), (64, 32)]

/-- The 3 shapes supported while CTRL.EXT_EN = 1 (30_encoding.md R93). -/
def extShapes : List (Nat × Nat) := [(128, 128), (128, 64), (64, 128)]

/-- The engine's Decode of a command word at acceptance, given CTRL.EXT_EN (30_encoding.md R94): reserved
bits first, then the catalog. -/
def decodeCommand (word : Word) (ext : Bool) : Decoded :=
  if fieldReserved word ≠ 0 then .reject .reservedCmd
  else if (fieldW word, fieldH word) ∈ baseShapes then .op (fieldW word) (fieldH word) (fieldDepth word)
  else if (fieldW word, fieldH word) ∈ extShapes ∧ ext = true then
    .op (fieldW word) (fieldH word) (fieldDepth word)
  else .reject .unsupportedShape

/-- The command word of a shape and depth: `W + 256*H + 65536*DEPTH` (30_encoding.md R101). -/
def commandWord (w h : Nat) (depth : Depth) : Word :=
  BitVec.ofNat 32 (w + 256 * h + 65536 * (match depth with | .narrow => 0 | .wide => 1))

/-- The priority-1 CMD rows: the reserved bit that must be set, in the table's order. A word with several
reserved bits set is the first row's that matches (log entry 8). -/
def reservedRows : List (Nat × (Word → Instr)) :=
  [(17, .rejectReservedBit17), (18, .rejectReservedBit18), (19, .rejectReservedBit19),
    (20, .rejectReservedBit20), (21, .rejectReservedBit21), (22, .rejectReservedBit22),
    (23, .rejectReservedBit23), (24, .rejectReservedBit24), (25, .rejectReservedBit25),
    (26, .rejectReservedBit26), (27, .rejectReservedBit27), (28, .rejectReservedBit28),
    (29, .rejectReservedBit29), (30, .rejectReservedBit30), (31, .rejectReservedBit31)]

/-- A priority-2 CMD row of the opcode table: the shape and depth its fixed bits give, and its constructor. -/
structure CommandRow where
  w : Nat
  h : Nat
  depth : Depth
  instr : Instr
deriving DecidableEq, Repr

/-- The 32 priority-2 CMD rows (30_encoding.md R95), in the table's order. -/
def commandRows : List CommandRow :=
  [⟨4, 4, .narrow, .obmcsad8_4x4⟩,
    ⟨4, 4, .wide, .obmcsad16_4x4⟩,
    ⟨8, 8, .narrow, .obmcsad8_8x8⟩,
    ⟨8, 8, .wide, .obmcsad16_8x8⟩,
    ⟨16, 16, .narrow, .obmcsad8_16x16⟩,
    ⟨16, 16, .wide, .obmcsad16_16x16⟩,
    ⟨32, 32, .narrow, .obmcsad8_32x32⟩,
    ⟨32, 32, .wide, .obmcsad16_32x32⟩,
    ⟨64, 64, .narrow, .obmcsad8_64x64⟩,
    ⟨64, 64, .wide, .obmcsad16_64x64⟩,
    ⟨4, 8, .narrow, .obmcsad8_4x8⟩,
    ⟨4, 8, .wide, .obmcsad16_4x8⟩,
    ⟨8, 4, .narrow, .obmcsad8_8x4⟩,
    ⟨8, 4, .wide, .obmcsad16_8x4⟩,
    ⟨8, 16, .narrow, .obmcsad8_8x16⟩,
    ⟨8, 16, .wide, .obmcsad16_8x16⟩,
    ⟨16, 8, .narrow, .obmcsad8_16x8⟩,
    ⟨16, 8, .wide, .obmcsad16_16x8⟩,
    ⟨16, 32, .narrow, .obmcsad8_16x32⟩,
    ⟨16, 32, .wide, .obmcsad16_16x32⟩,
    ⟨32, 16, .narrow, .obmcsad8_32x16⟩,
    ⟨32, 16, .wide, .obmcsad16_32x16⟩,
    ⟨32, 64, .narrow, .obmcsad8_32x64⟩,
    ⟨32, 64, .wide, .obmcsad16_32x64⟩,
    ⟨64, 32, .narrow, .obmcsad8_64x32⟩,
    ⟨64, 32, .wide, .obmcsad16_64x32⟩,
    ⟨128, 128, .narrow, .obmcsad8_128x128⟩,
    ⟨128, 128, .wide, .obmcsad16_128x128⟩,
    ⟨128, 64, .narrow, .obmcsad8_128x64⟩,
    ⟨128, 64, .wide, .obmcsad16_128x64⟩,
    ⟨64, 128, .narrow, .obmcsad8_64x128⟩,
    ⟨64, 128, .wide, .obmcsad16_64x128⟩]

/-- The row of a CMD-format word: priority 1 the reserved bits, priority 2 the operations, priority 3 the
UNSUPPORTED_SHAPE fallback. Total: every word is some row's (30_encoding.md R94, R97). An EXT row is
the word's row whatever CTRL.EXT_EN holds; its meaning looks at EXT_EN (log entry 9). -/
def decodeCommandWord (word : Word) : Instr :=
  match reservedRows.find? (fun row => word.getLsbD row.1) with
  | some row => row.2 word
  | none =>
    match commandRows.find? (fun row =>
        row.w == fieldW word && row.h == fieldH word && row.depth == fieldDepth word) with
    | some row => row.instr
    | none => .rejectUnsupportedShape word

/-- The 7-bit key of a host access: `(dir << 6) | offset` (30_encoding.md R98). -/
def accessKey (write : Bool) (offset : Nat) : Nat := (if write then 64 else 0) + offset

/-- The 32 MMIO rows of the opcode table by key (30_encoding.md R98); a read has no data operand. -/
def accessRows : List (Nat × (Word → Instr)) :=
  [(0x00, fun _ => .rdCap),
    (0x04, fun _ => .rdCtrl),
    (0x08, fun _ => .rdStatus),
    (0x0C, fun _ => .rdCmd),
    (0x10, fun _ => .rdResult),
    (0x14, fun _ => .rdErraddr),
    (0x18, fun _ => .rdRefBase),
    (0x1C, fun _ => .rdRefStride),
    (0x20, fun _ => .rdWsrcBase),
    (0x24, fun _ => .rdMskBase),
    (0x40, .wrCap),
    (0x44, .wrCtrl),
    (0x48, .wrStatus),
    (0x4C, .wrCmd),
    (0x50, .wrResult),
    (0x54, .wrErraddr),
    (0x58, .wrRefBase),
    (0x5C, .wrRefStride),
    (0x60, .wrWsrcBase),
    (0x64, .wrMskBase),
    (0x28, fun _ => .rdReserved28),
    (0x68, .wrReserved28),
    (0x2C, fun _ => .rdReserved2C),
    (0x6C, .wrReserved2C),
    (0x30, fun _ => .rdReserved30),
    (0x70, .wrReserved30),
    (0x34, fun _ => .rdReserved34),
    (0x74, .wrReserved34),
    (0x38, fun _ => .rdReserved38),
    (0x78, .wrReserved38),
    (0x3C, fun _ => .rdReserved3C),
    (0x7C, .wrReserved3C)]

/-- The host access with this direction, offset, size in bytes and data (30_encoding.md R98). Any other size,
an offset that is not a multiple of 4 or one outside the 64-byte window is refused by name
(42_host_access.md R212). -/
def decodeAccess (write : Bool) (offset size : Nat) (data : Word) : Except DecodeError Instr :=
  if size ≠ 4 then .error .accessSize
  else if offset % 4 ≠ 0 then .error .accessUnaligned
  else if 64 ≤ offset then .error .accessOutsideWindow
  else
    match accessRows.lookup (accessKey write offset) with
    | some row => .ok (row data)
    | none => .error .accessOutsideWindow

/-- The decoder: total on every request. -/
def decode : Request → Except DecodeError Instr
  | .command word => .ok (decodeCommandWord word)
  | .access write offset size data => decodeAccess write offset size data

/-- The request whose bits are `w`, `nbits` of them in the opcode table: a row of at most 8 bits is an MMIO
row, keyed by `(dir << 6) | offset` with data 0; a longer one is a 32-bit command word. A key byte with
bit 7 set is no key of R98 and becomes an offset outside the window. -/
def tableRequest (nbits w : Nat) : Request :=
  if nbits ≤ 8 then
    if w < 128 then .access (decide (64 ≤ w)) (w % 64) 4 0
    else .access false w 4 0
  else .command (BitVec.ofNat 32 w)

/-- The instruction the decoder reads from the opcode-table bits `w`; none where it refuses. -/
def decodeTableWord (nbits w : Nat) : Option Instr :=
  match decode (tableRequest nbits w) with
  | .ok i => some i
  | .error _ => none

/-- The encoder: the request of an instruction, from the words of 30_encoding.md R95 and the keys of R98 (a
rejection row keeps its word; a read carries data 0). -/
def encode : Instr → Request
  | .rejectReservedBit17 word => .command word
  | .rejectReservedBit18 word => .command word
  | .rejectReservedBit19 word => .command word
  | .rejectReservedBit20 word => .command word
  | .rejectReservedBit21 word => .command word
  | .rejectReservedBit22 word => .command word
  | .rejectReservedBit23 word => .command word
  | .rejectReservedBit24 word => .command word
  | .rejectReservedBit25 word => .command word
  | .rejectReservedBit26 word => .command word
  | .rejectReservedBit27 word => .command word
  | .rejectReservedBit28 word => .command word
  | .rejectReservedBit29 word => .command word
  | .rejectReservedBit30 word => .command word
  | .rejectReservedBit31 word => .command word
  | .obmcsad8_4x4 => .command 0x00000404#32
  | .obmcsad16_4x4 => .command 0x00010404#32
  | .obmcsad8_8x8 => .command 0x00000808#32
  | .obmcsad16_8x8 => .command 0x00010808#32
  | .obmcsad8_16x16 => .command 0x00001010#32
  | .obmcsad16_16x16 => .command 0x00011010#32
  | .obmcsad8_32x32 => .command 0x00002020#32
  | .obmcsad16_32x32 => .command 0x00012020#32
  | .obmcsad8_64x64 => .command 0x00004040#32
  | .obmcsad16_64x64 => .command 0x00014040#32
  | .obmcsad8_4x8 => .command 0x00000804#32
  | .obmcsad16_4x8 => .command 0x00010804#32
  | .obmcsad8_8x4 => .command 0x00000408#32
  | .obmcsad16_8x4 => .command 0x00010408#32
  | .obmcsad8_8x16 => .command 0x00001008#32
  | .obmcsad16_8x16 => .command 0x00011008#32
  | .obmcsad8_16x8 => .command 0x00000810#32
  | .obmcsad16_16x8 => .command 0x00010810#32
  | .obmcsad8_16x32 => .command 0x00002010#32
  | .obmcsad16_16x32 => .command 0x00012010#32
  | .obmcsad8_32x16 => .command 0x00001020#32
  | .obmcsad16_32x16 => .command 0x00011020#32
  | .obmcsad8_32x64 => .command 0x00004020#32
  | .obmcsad16_32x64 => .command 0x00014020#32
  | .obmcsad8_64x32 => .command 0x00002040#32
  | .obmcsad16_64x32 => .command 0x00012040#32
  | .obmcsad8_128x128 => .command 0x00008080#32
  | .obmcsad16_128x128 => .command 0x00018080#32
  | .obmcsad8_128x64 => .command 0x00004080#32
  | .obmcsad16_128x64 => .command 0x00014080#32
  | .obmcsad8_64x128 => .command 0x00008040#32
  | .obmcsad16_64x128 => .command 0x00018040#32
  | .rejectUnsupportedShape word => .command word
  | .rdCap => .access false 0x00 4 0#32
  | .rdCtrl => .access false 0x04 4 0#32
  | .rdStatus => .access false 0x08 4 0#32
  | .rdCmd => .access false 0x0C 4 0#32
  | .rdResult => .access false 0x10 4 0#32
  | .rdErraddr => .access false 0x14 4 0#32
  | .rdRefBase => .access false 0x18 4 0#32
  | .rdRefStride => .access false 0x1C 4 0#32
  | .rdWsrcBase => .access false 0x20 4 0#32
  | .rdMskBase => .access false 0x24 4 0#32
  | .wrCap data => .access true 0x00 4 data
  | .wrCtrl data => .access true 0x04 4 data
  | .wrStatus data => .access true 0x08 4 data
  | .wrCmd data => .access true 0x0C 4 data
  | .wrResult data => .access true 0x10 4 data
  | .wrErraddr data => .access true 0x14 4 data
  | .wrRefBase data => .access true 0x18 4 data
  | .wrRefStride data => .access true 0x1C 4 data
  | .wrWsrcBase data => .access true 0x20 4 data
  | .wrMskBase data => .access true 0x24 4 data
  | .rdReserved28 => .access false 0x28 4 0#32
  | .wrReserved28 data => .access true 0x28 4 data
  | .rdReserved2C => .access false 0x2C 4 0#32
  | .wrReserved2C data => .access true 0x2C 4 data
  | .rdReserved30 => .access false 0x30 4 0#32
  | .wrReserved30 data => .access true 0x30 4 data
  | .rdReserved34 => .access false 0x34 4 0#32
  | .wrReserved34 data => .access true 0x34 4 data
  | .rdReserved38 => .access false 0x38 4 0#32
  | .wrReserved38 data => .access true 0x38 4 data
  | .rdReserved3C => .access false 0x3C 4 0#32
  | .wrReserved3C data => .access true 0x3C 4 data

end Sys2Proof
end

