-- ==== Sys2Proof/Config.lean ====
section
/-! DEFINITION. The implementation parameters of 00_scope.md R7, R8, R11, R12, R13 and the free values of
R17 (`draw`): what is fixed per instance or left open, and never part of the state (R9, 10_state.md R20).
Each is an opaque constant with no value, so that nothing can be proved of it; `Params` bundles
them, so that the engine's steps are functions of any parameters and statements hold for all of them.
Log entries 4, 5, 10, 11 and 12. -/

namespace Sys2Proof

/-- The three elements the engine reads for a pixel: its sample, its `msk` word and its `wsrc` word
(20_memory.md R63, R64; 41_catalog_dispatch.md R151). -/
inductive Elem where
  | sample
  | msk
  | wsrc
deriving DecidableEq, Repr

/-- Which read of a byte of the engine's own register window this is (20_memory.md R72 leaves every such
read's value open, so each gets a value of its own): the engine turn, the pixel, the element and the
byte's address. -/
structure ReadId where
  turn : Nat
  pixel : Nat
  elem : Elem
  addr : Word
deriving DecidableEq, Repr

/-- 00_scope.md R7, OPEN: whether the extended shapes exist in this instance. -/
opaque Config.extCap : Bool

/-- 00_scope.md R8, OPEN: whether this instance detects operands outside the operand domain. -/
opaque Config.diagOvf : Bool

/-- 00_scope.md R11, OPEN: the address of the 64-byte register window. -/
opaque Config.blockBase : Word

/-- 00_scope.md R12, OPEN: whether an engine read of `n` bytes at an address completes without a bus error. -/
opaque Config.memOk : Word → Nat → Bool

/-- The byte at an address that nothing has written yet: unknown, and the same at every read
(20_memory.md R70; log entry 5). -/
opaque Config.powerOn : Word → Byte

/-- `draw u32` of 00_scope.md R17: the free RESULT of 40_kernel.md R130 and 20_memory.md R75, one for each
index of the draw counter. -/
opaque Config.drawWord : Nat → Word

/-- The byte a read inside the engine's own register window returns: any value (20_memory.md R72). -/
opaque Config.windowByte : ReadId → Byte

/-- Which pixels an engine step may take up (00_scope.md R13 `LANES`, 41_catalog_dispatch.md R151: "any
non-empty subset"), for each index of the draw counter. -/
opaque Config.batch : Nat → Nat → Bool

/-- Which failing element a bus error reports when several fail (60_exceptions.md R235), for each index of
the draw counter; taken modulo the number of failing elements. -/
opaque Config.pickFail : Nat → Nat

/-- All parameters and free values together. The engine's steps take any of them as an argument
(00_scope.md R9: "parameters of the step relation, not state"). -/
structure Params where
  extCap : Bool
  diagOvf : Bool
  blockBase : Word
  memOk : Word → Nat → Bool
  powerOn : Word → Byte
  drawWord : Nat → Word
  windowByte : ReadId → Byte
  batch : Nat → Nat → Bool
  pickFail : Nat → Nat

/-- The parameters of this instance: all of them open. -/
def platform : Params where
  extCap := Config.extCap
  diagOvf := Config.diagOvf
  blockBase := Config.blockBase
  memOk := Config.memOk
  powerOn := Config.powerOn
  drawWord := Config.drawWord
  windowByte := Config.windowByte
  batch := Config.batch
  pickFail := Config.pickFail

end Sys2Proof
end

