-- ==== Sys2Proof/Machine/State.lean ====
section
/-! DEFINITION. Everything the spec gives the machine, as plain data: the host-visible registers (10_state.md R21
to R40), the engine's internal state (R41 to R45), the host-owned memory (20_memory.md R60), and the model's
own fields (what the host does next, the data its last read returned, the footprint watch of R75, the draw
counter). CAP and IRQ are functions of it (R23, R46). -/

namespace Sys2Proof.Machine

/-- CTRL (10_state.md R24); its bits 31:2 are reserved, read 0 and are not stored. -/
structure Ctrl where
  /-- EXT_EN (R25) -/
  extEn : Bool
  /-- IRQ_EN (R26) -/
  irqEn : Bool
deriving DecidableEq, Repr

/-- STATUS (10_state.md R27); its bits 7:5 and 31:12 are reserved, read 0 and are not stored. -/
structure Status where
  /-- BUSY (R28) -/
  busy : Bool
  /-- DONE (R29) -/
  done : Bool
  /-- ERR (R30) -/
  err : Bool
  /-- OVF (R31) -/
  ovf : Bool
  /-- WIGN (R32) -/
  wign : Bool
  /-- ERRCODE (R33) -/
  errCode : ErrCode
deriving DecidableEq, Repr

/-- The engine's internal state (10_state.md R41 to R45). -/
structure Engine where
  /-- eng.W, latched (R41) -/
  w : Nat
  /-- eng.H, latched (R41) -/
  h : Nat
  /-- eng.D, latched (R41) -/
  depth : Depth
  /-- eng.RB, latched REF_BASE (R41) -/
  rb : Word
  /-- eng.RS, latched REF_STRIDE (R41) -/
  rs : Word
  /-- eng.WB, latched WSRC_BASE (R41) -/
  wb : Word
  /-- eng.MB, latched MSK_BASE (R41) -/
  mb : Word
  /-- eng.ACC, the accumulator (R42) -/
  acc : Word
  /-- eng.PEND, the raster indices not yet accumulated, in raster order without repeats (R43) -/
  pend : List Nat
  /-- eng.OOD, some processed pixel was outside the operand domain (R44) -/
  ood : Bool
  /-- eng.BERR, the address of a failing read (R45) -/
  berr : Option Word
deriving DecidableEq, Repr

/-- Memory: the bytes that have been written, addresses strictly rising (20_memory.md R60). A byte not listed
has no value here (log entry 5). -/
abbrev Memory := List Host.Cell

/-- Whether the footprint of the last accepted command must still be stable (20_memory.md R75: from acceptance
until the host observes completion), and whether it has been written in that interval. One footprint is watched,
that of the command latched last. The model's own field (log entries 6 and 21). -/
inductive Watch where
  /-- no command's footprint is watched -/
  | off
  /-- the interval of R75 is open and no footprint byte has been written in it -/
  | stable
  /-- the interval of R75 is open and a footprint byte has been written in it -/
  | written
deriving DecidableEq, Repr

/-- What happens next outside the engine's own progress: the host's actions, in order, and between them the
turns the engine is given (00_scope.md R9, 42_host_access.md R210; log entry 2). -/
inductive Input where
  /-- a register access or a command word -/
  | request (r : Request)
  /-- `POLL <REG>, mask, value` (30_encoding.md R100): read the register at this offset until it matches -/
  | poll (offset : Nat) (mask value : Word)
  /-- a store of one byte to memory by the host or another agent, not an engine access -/
  | store (addr : Word) (byte : Byte)
  /-- a read of one byte of memory by the host, not an engine access (00_scope.md R9) -/
  | load (addr : Word)
  /-- the reset input is asserted (70_reset_and_hazards.md R260) -/
  | reset
  /-- the engine takes a turn before the host's next action -/
  | engine
deriving DecidableEq, Repr

/-- The machine's state. -/
structure State where
  ctrl : Ctrl
  status : Status
  /-- CMD (R34) -/
  cmd : Word
  /-- RESULT (R35) -/
  result : Word
  /-- ERRADDR (R36) -/
  errAddr : Word
  /-- REF_BASE (R37) -/
  refBase : Word
  /-- REF_STRIDE (R38) -/
  refStride : Word
  /-- WSRC_BASE (R39) -/
  wsrcBase : Word
  /-- MSK_BASE (R40) -/
  mskBase : Word
  eng : Engine
  mem : Memory
  /-- the model's own: what the host does next (log entry 2) -/
  inputs : List Input
  /-- the model's own: the data the host's last read of a register or of memory returned (30_encoding.md R98,
  00_scope.md R9; log entry 7) -/
  readData : Word
  /-- the model's own: the footprint watch (log entry 6) -/
  watch : Watch
  /-- the model's own: the index of the next free value (log entry 4) -/
  draws : Nat
deriving DecidableEq, Repr

/-- Why the machine stops with a fault. The engine's own errors are no faults: they end the command and stand in
STATUS (60_exceptions.md R230). -/
inductive Fault where
  /-- Raised by a `store` input to an address that holds no memory: no engine read of any width that contains
  it succeeds (20_memory.md R60, 00_scope.md R12). Safe: the machine stops (log entry 18). -/
  | storeUnmapped
  /-- Raised by a `load` input at an address that holds no memory, as `storeUnmapped` is. Safe: the machine stops
  (log entry 18). -/
  | loadUnmapped
deriving DecidableEq, Repr

/-- Why the machine refuses to go on. -/
inductive Refusal where
  /-- Raised by exec's arm of an instruction without a meaning; no arm does. Safe: the machine stops. -/
  | notModelled (mnemonic : String)
  /-- Raised by step for a host access whose size is not 32 bits (42_host_access.md R212). Safe: the machine stops
  (log entry 19). -/
  | accessSize
  /-- Raised by step for a host access at an offset that is not a multiple of 4 (R212). Safe: the machine stops. -/
  | accessUnaligned
  /-- Raised by step for a host access outside the 64-byte window (R212). Safe: the machine stops. -/
  | accessOutsideWindow
  /-- Raised by step for a byte store into the register window, an access of another size than 32 bits
  (R212). Safe: the machine stops (log entry 18). -/
  | storeInWindow
  /-- Raised by step for a byte load from the register window, an access of another size than 32 bits
  (R212). Safe: the machine stops (log entry 18). -/
  | loadInWindow
deriving DecidableEq, Repr

/-- The engine's internal state after reset (10_state.md R41 to R45). -/
def Engine.idle : Engine where
  w := 0
  h := 0
  depth := .narrow
  rb := 0#32
  rs := 0#32
  wb := 0#32
  mb := 0#32
  acc := 0#32
  pend := []
  ood := false
  berr := none

/-- The machine right after reset (70_reset_and_hazards.md R260): every register and every internal item at 0,
no byte of memory listed, and the model's own fields at rest (log entries 2, 4, 6 and 7). -/
def State.reset : State where
  ctrl := ⟨false, false⟩
  status := ⟨false, false, false, false, false, .none⟩
  cmd := 0#32
  result := 0#32
  errAddr := 0#32
  refBase := 0#32
  refStride := 0#32
  wsrcBase := 0#32
  mskBase := 0#32
  eng := .idle
  mem := []
  inputs := []
  readData := 0#32
  watch := .off
  draws := 0

end Sys2Proof.Machine
end

