-- ==== Sys2Proof/Machine/Flags.lean ====
section
/-! DEFINITION. The register words the host reads and every STATUS bit the spec computes: the assembled CAP, CTRL
and STATUS words, the IRQ output, the clearing at acceptance, write-one-to-clear, and the operand-domain
test whose outcome STATUS.OVF reports. -/

namespace Sys2Proof.Machine

/-- The 4-bit STATUS.ERRCODE of an error (60_exceptions.md R231). -/
def errCodeBits : ErrCode → BitVec 4
  | .none => 0#4
  | .unsupportedShape => 1#4
  | .reservedCmd => 2#4
  | .misaligned => 3#4
  | .busError => 4#4

/-- The value CAP reads as: `{30'b0, DIAG_OVF, EXT_CAP}` (10_state.md R23). -/
def capWord (p : Params) : Word :=
  0#30 ++ BitVec.ofBool p.diagOvf ++ BitVec.ofBool p.extCap

/-- The value CTRL reads as (10_state.md R24). -/
def ctrlWord (c : Ctrl) : Word :=
  0#30 ++ BitVec.ofBool c.irqEn ++ BitVec.ofBool c.extEn

/-- The value STATUS reads as (10_state.md R27). -/
def statusWord (st : Status) : Word :=
  0#20 ++ errCodeBits st.errCode ++ 0#3 ++ BitVec.ofBool st.wign ++ BitVec.ofBool st.ovf
    ++ BitVec.ofBool st.err ++ BitVec.ofBool st.done ++ BitVec.ofBool st.busy

/-- The IRQ output, a level: `CTRL.IRQ_EN AND STATUS.DONE` at all times (10_state.md R46, 60_exceptions.md
R242). -/
def State.irq (s : State) : Bool := s.ctrl.irqEn && s.status.done

/-- CTRL after a write: EXT_EN is WARL and stays 0 where EXT_CAP = 0; bits 31:2 are ignored
(10_state.md R25, 42_host_access.md R202). -/
def ctrlWritten (p : Params) (data : Word) : Ctrl where
  extEn := data.getLsbD 0 && p.extCap
  irqEn := data.getLsbD 1

/-- STATUS after a write-one-to-clear (42_host_access.md R203): BUSY, ERRCODE and the reserved bits of `data`
are ignored; clearing ERR clears ERRCODE with it. -/
def statusCleared (data : Word) (st : Status) : Status where
  busy := st.busy
  done := st.done && !data.getLsbD 1
  err := st.err && !data.getLsbD 2
  ovf := st.ovf && !data.getLsbD 3
  wign := st.wign && !data.getLsbD 4
  errCode := if data.getLsbD 2 then .none else st.errCode

/-- STATUS at the start of an acceptance: DONE, ERR, OVF and ERRCODE cleared, WIGN kept
(41_catalog_dispatch.md R150). -/
def statusAtAcceptance (st : Status) : Status :=
  { st with done := false, err := false, ovf := false, errCode := .none }

/-- STATUS after `raise Error(code, _)`: OVF and WIGN kept (60_exceptions.md R230). -/
def statusOnError (code : ErrCode) (st : Status) : Status :=
  { st with err := true, errCode := code, done := true, busy := false }

/-- STATUS after a completion without error, with OVF = `DIAG_OVF and eng.OOD` (41_catalog_dispatch.md R152). -/
def statusOnCompletion (p : Params) (ood : Bool) (st : Status) : Status :=
  { st with ovf := p.diagOvf && ood, busy := false, done := true }

/-- The value fits a 32-bit signed lane (00_scope.md R16: s32). -/
def fitsS32 (x : Int) : Bool := decide (-2147483648 ≤ x) && decide (x ≤ 2147483647)

/-- The operand domain: every intermediate of a pixel fits a 32-bit signed lane (40_kernel.md R129). -/
def inDomain (product diff : Int) (absDiff : Nat) : Bool :=
  fitsS32 product && fitsS32 diff && decide (2048 + absDiff ≤ 2147483647)

end Sys2Proof.Machine
end

