-- ==== Sys2Proof/Machine/Operands.lean ====
section
/-! DEFINITION. What the engine reads for a pixel: effective addresses (20_memory.md R63, R64), element sizes
(R68), the little-endian read (R62), the bytes the bus returns (R70, R72), the footprint (R65), and the
sample and weight fetches (40_kernel.md R121 to R123). -/

namespace Sys2Proof.Machine

/-- The byte memory holds at an address, if something has written it. -/
def Memory.read : Memory → Nat → Option Byte
  | [], _ => none
  | (a', b) :: m, a => if a' = a then some b else Memory.read m a

/-- The sample size S in bytes (20_memory.md R63). -/
def sampleSize : Depth → Nat
  | .narrow => 1
  | .wide => 2

/-- The elements of a pixel, in one list. -/
def allElems : List Elem := [.sample, .msk, .wsrc]

/-- The width in bytes of an element read (20_memory.md R68). -/
def elemSize (depth : Depth) : Elem → Nat
  | .sample => sampleSize depth
  | .msk => 4
  | .wsrc => 4

/-- The address of pixel `n`'s sample: row `n div W`, column `n mod W`, modulo 2^32 (20_memory.md R63, R67). -/
def sampleAddr (e : Engine) (n : Nat) : Word :=
  BitVec.ofNat 32 (e.rb.toNat + sampleSize e.depth * (n / e.w * e.rs.toNat + n % e.w))

/-- The address of a pixel's element (20_memory.md R63, R64), modulo 2^32. -/
def elemAddr (e : Engine) : Elem → Nat → Word
  | .sample, n => sampleAddr e n
  | .msk, n => BitVec.ofNat 32 (e.mb.toNat + 4 * n)
  | .wsrc, n => BitVec.ofNat 32 (e.wb.toNat + 4 * n)

/-- `MemRead(addr, n)` over a source of bytes: little-endian, addresses modulo 2^32 (20_memory.md R62). -/
def memRead (byte : Word → Byte) (addr : Word) : Nat → Nat
  | 0 => 0
  | k + 1 => memRead byte addr k + 2 ^ (8 * k) * (byte (addr + BitVec.ofNat 32 k)).toNat

/-- Whether an address lies in the engine's own register window, `BLOCK_BASE .. BLOCK_BASE + 0x3F`
(20_memory.md R72); the window wraps modulo 2^32 (log entry 11). -/
def inWindow (p : Params) (addr : Word) : Bool := decide ((addr - p.blockBase).toNat < 64)

/-- The byte memory holds at an address: what was written there last, or the unknown byte it held before
(20_memory.md R70; log entry 5). -/
def memByte (p : Params) (m : Memory) (addr : Word) : Byte :=
  (m.read addr.toNat).getD (p.powerOn addr)

/-- The byte the bus returns to the engine: memory's, or any value inside the engine's own register window
(20_memory.md R72). -/
def busByte (p : Params) (m : Memory) (turn pixel : Nat) (elem : Elem) (addr : Word) : Byte :=
  if inWindow p addr then p.windowByte ⟨turn, pixel, elem, addr⟩ else memByte p m addr

/-- A byte belongs to pixel `n`'s element. -/
def elemHolds (e : Engine) (elem : Elem) (n : Nat) (addr : Word) : Bool :=
  decide ((addr - elemAddr e elem n).toNat < elemSize e.depth elem)

/-- A byte belongs to the footprint of the latched command (20_memory.md R65). -/
def inFootprint (e : Engine) (addr : Word) : Bool :=
  (List.range (e.w * e.h)).any fun n => allElems.any fun elem => elemHolds e elem n addr

/-- The three integers a pixel's term is computed from. -/
structure PixelOperands where
  /-- the sample, zero-extended -/
  a : Nat
  /-- the mask weight -/
  m : Int
  /-- the weighted source -/
  w : Int
deriving DecidableEq, Repr

/-- `sext_32` of a 32-bit value (00_scope.md R16): two's complement. -/
def signed32 (v : Nat) : Int := if v < 2147483648 then (v : Int) else -((4294967296 - v : Nat) : Int)

/-- Pixel `n`'s operands: the sample zero-extended at its size (40_kernel.md R121, R122) and the two weights
sign-extended from 32 bits (R123), each read at its own address and width (R137). -/
def fetchPixel (byte : Elem → Word → Byte) (e : Engine) (n : Nat) : PixelOperands where
  a := memRead (byte .sample) (elemAddr e .sample n) (sampleSize e.depth)
  m := signed32 (memRead (byte .msk) (elemAddr e .msk n) 4)
  w := signed32 (memRead (byte .wsrc) (elemAddr e .wsrc n) 4)

/-- The addresses of a pixel's elements whose read fails (00_scope.md R12, 41_catalog_dispatch.md R151). -/
def failingOfPixel (p : Params) (e : Engine) (n : Nat) : List Word :=
  (allElems.filter fun elem => !p.memOk (elemAddr e elem n) (elemSize e.depth elem)).map
    fun elem => elemAddr e elem n

end Sys2Proof.Machine
end

