-- ==== Sys2Proof/Machine/Kernel.lean ====
section
/-! DEFINITION. The weighted distortion kernel of 40_kernel.md: the five stages of a pixel (R124 to R128) over
exact integers, the accumulation modulo 2^32, and the kernel of R120 as one pure function of the latched
operands and a source of bytes. -/

namespace Sys2Proof.Machine

/-- Stage RND: round half up at bit 12, `(ad + 2048) >> 12` (40_kernel.md R127). -/
def roundQ12 (absDiff : Nat) : Nat := (2048 + absDiff) / 4096

/-- `PixelTerm(a, m, w)` of 40_kernel.md R120: the rounded term (MUL, SUB, ABS, RND, exact) and whether the
pixel is in the operand domain. -/
def pixelTerm (x : PixelOperands) : Nat × Bool :=
  let product : Int := x.a * x.m
  let diff : Int := x.w - product
  (roundQ12 diff.natAbs, inDomain product diff diff.natAbs)

/-- The term of pixel `n`, with its own source of bytes for each pixel. -/
def termOf (byte : Nat → Elem → Word → Byte) (e : Engine) (n : Nat) : Nat × Bool :=
  pixelTerm (fetchPixel (byte n) e n)

/-- Stage ACC over some pixels: the sum modulo 2^32 (40_kernel.md R128). -/
def accumulate (byte : Nat → Elem → Word → Byte) (e : Engine) (acc : Word) (pixels : List Nat) : Word :=
  pixels.foldl (fun acc n => acc + BitVec.ofNat 32 (termOf byte e n).1) acc

/-- Some of the pixels is outside the operand domain (40_kernel.md R129). -/
def anyOutside (byte : Nat → Elem → Word → Byte) (e : Engine) (pixels : List Nat) : Bool :=
  pixels.any fun n => !(termOf byte e n).2

/-- The kernel of 40_kernel.md R120 over every pixel of the block, in raster order from 0: the accumulated sum and
whether some pixel is outside the operand domain (where the value is free, R130). -/
def kernel (byte : Nat → Elem → Word → Byte) (e : Engine) : Word × Bool :=
  (accumulate byte e 0#32 (List.range (e.w * e.h)), anyOutside byte e (List.range (e.w * e.h)))

end Sys2Proof.Machine
end

