-- ==== Sys2Proof/Machine/Ops.lean ====
section
/-! DEFINITION. The shared operations: writing memory, raising an error (60_exceptions.md R230), accepting a
command (41_catalog_dispatch.md R150), the busy guard of host writes (42_host_access.md R201), and the host's
observation of a completion (20_memory.md R75, R76). -/

namespace Sys2Proof.Machine

/-- Writing one byte: the list stays strictly rising. -/
def Memory.write : Memory → Nat → Byte → Memory
  | [], a, b => [(a, b)]
  | (a', b') :: m, a, b =>
    if a < a' then (a, b) :: (a', b') :: m
    else if a = a' then (a, b) :: m
    else (a', b') :: Memory.write m a b

/-- The canonical form of memory: addresses strictly rising and inside the 2^32-byte space (20_memory.md R60).
An unlisted byte has no value, so no entry can equal it. -/
def Memory.wf (m : Memory) : Bool :=
  decide (m.Pairwise fun x y => x.1 < y.1) && m.all fun x => decide (x.1 < 2 ^ 32)

/-- `raise Error(code, addr)` (60_exceptions.md R230), at acceptance or at completion: STATUS and ERRADDR written,
the engine idle, and nothing else changed (log entry 13). -/
def raiseError (code : ErrCode) (addr : Word) (s : State) : State :=
  { s with
    status := statusOnError code s.status
    errAddr := addr
    eng := { s.eng with pend := [] } }

/-- The first base register that breaks the alignment rule of 20_memory.md R66, in the order of
60_exceptions.md R234: REF_BASE for a wide command, WSRC_BASE, MSK_BASE. -/
def misalignedBase (depth : Depth) (s : State) : Option Word :=
  if depth = .wide ∧ s.refBase.getLsbD 0 = true then some s.refBase
  else if s.wsrcBase.extractLsb' 0 2 ≠ 0#2 then some s.wsrcBase
  else if s.mskBase.extractLsb' 0 2 ≠ 0#2 then some s.mskBase
  else none

/-- The latch of an accepted command (41_catalog_dispatch.md R150): operands copied, ACC, PEND, OOD and BERR
initialised, BUSY set; the footprint is watched from here on (20_memory.md R75). DESIGN CHOICE, log entry 21: the
latch ends the interval of a previous command whose completion the host has not observed, so that a later
store to that command's footprint leaves its RESULT as it was; R75 does not say what becomes of that interval
(unsafe). -/
def latchCommand (w h : Nat) (depth : Depth) (s : State) : State :=
  { s with
    status := { s.status with busy := true }
    eng :=
      { w := w, h := h, depth := depth
        rb := s.refBase, rs := s.refStride, wb := s.wsrcBase, mb := s.mskBase
        acc := 0#32, pend := List.range (w * h), ood := false, berr := none }
    watch := .stable }

/-- The first writes of an acceptance: CMD, and the clearing of STATUS (but WIGN) and ERRADDR
(41_catalog_dispatch.md R150). -/
def beginAcceptance (word : Word) (s : State) : State :=
  { s with cmd := word, status := statusAtAcceptance s.status, errAddr := 0#32 }

/-- `AcceptCmd(word)` once the word is decoded (41_catalog_dispatch.md R150): a rejected word raises its error,
then the alignment checks, then the latch. -/
def acceptCommand (word : Word) (dec : Decoded) (s : State) : State :=
  match dec with
  | .reject code => raiseError code 0#32 (beginAcceptance word s)
  | .op w h depth =>
    match misalignedBase depth s with
    | some base => raiseError .misaligned base (beginAcceptance word s)
    | none => latchCommand w h depth (beginAcceptance word s)

/-- A host write that a busy engine ignores: WIGN set, nothing else (42_host_access.md R201). -/
def ignoreWrite (s : State) : State := { s with status := { s.status with wign := true } }

/-- A host write to CTRL, CMD or an operand register: ignored while BUSY = 1, else performed
(42_host_access.md R201). It is no write of a footprint byte, wherever the footprint lies (DESIGN CHOICE, unsafe,
log entry 22). -/
def guardedWrite (write : State → State) (s : State) : State :=
  if s.status.busy then ignoreWrite s else write s

/-- A host write of `word` to CMD, with what the word decodes to (42_host_access.md R204). -/
def writeCommand (word : Word) (dec : Decoded) (s : State) : State :=
  guardedWrite (acceptCommand word dec) s

/-- An operation's decoding when its shape is in BASE: accepted whatever CTRL.EXT_EN holds. -/
def baseOp (w h : Nat) (depth : Depth) : Decoded := .op w h depth

/-- An operation's decoding when its shape is in EXT: UNSUPPORTED_SHAPE unless CTRL.EXT_EN = 1
(30_encoding.md R93, R94). -/
def extOp (w h : Nat) (depth : Depth) (s : State) : Decoded :=
  if s.ctrl.extEn then .op w h depth else .reject .unsupportedShape

/-- The data a host read returns (30_encoding.md R98); nothing else changes (42_host_access.md R200). -/
def returnData (data : Word) (s : State) : State := { s with readData := data }

/-- The host's observation of a completion: a STATUS read with BUSY = 0 and DONE = 1 ends the interval in which
the footprint must be stable (20_memory.md R75, R76). -/
def observeStatus (s : State) : State :=
  if !s.status.busy && s.status.done then { s with watch := .off } else s

end Sys2Proof.Machine
end

