-- ==== Sys2Proof/Machine/Engine.lean ====
section
/-! DEFINITION. The engine agent: one engine step over a non-empty choice of pending pixels
(41_catalog_dispatch.md R151), completion without error (R152), completion with a bus error (R153), and the turn
that takes whichever of them is enabled. -/

namespace Sys2Proof.Machine

/-- The pending pixels an engine step takes up: any non-empty subset (41_catalog_dispatch.md R151). The free
choice selects; where it selects no pending pixel, the first pending pixel is taken (log entry 10). -/
def chosen (p : Params) (s : State) (n : Nat) : Bool :=
  if s.eng.pend.any (p.batch s.draws) then p.batch s.draws n else s.eng.pend.head? == some n

/-- The source of bytes of this engine turn. -/
def turnBytes (p : Params) (s : State) (pixel : Nat) (elem : Elem) (addr : Word) : Byte :=
  busByte p s.mem s.draws pixel elem addr

/-- The addresses of the failing element reads among some pixels (41_catalog_dispatch.md R151). -/
def failingReads (p : Params) (e : Engine) (pixels : List Nat) : List Word :=
  pixels.flatMap (failingOfPixel p e)

/-- The pixels this engine step takes up: B of 41_catalog_dispatch.md R151. -/
def chosenPixels (p : Params) (s : State) : List Nat := s.eng.pend.filter (chosen p s)

/-- Which of the failing reads is reported: any one of them (60_exceptions.md R235). -/
def reportedRead (p : Params) (s : State) (first : Word) (more : List Word) : Word :=
  (first :: more).getD (p.pickFail s.draws % (first :: more).length) first

/-- A failing read is recorded in BERR and nothing is accumulated (41_catalog_dispatch.md R151). -/
def recordBusError (addr : Word) (s : State) : State :=
  { s with eng := { s.eng with berr := some addr }, draws := s.draws + 1 }

/-- B is accumulated, OOD set when a pixel of B is outside the domain, and B leaves PEND
(41_catalog_dispatch.md R151). -/
def accumulateBatch (p : Params) (s : State) : State :=
  { s with
    eng :=
      { s.eng with
        acc := accumulate (turnBytes p s) s.eng s.eng.acc (chosenPixels p s)
        ood := s.eng.ood || anyOutside (turnBytes p s) s.eng (chosenPixels p s)
        pend := s.eng.pend.filter fun n => !chosen p s n }
    draws := s.draws + 1 }

/-- `EngineStep(B)` (41_catalog_dispatch.md R151). -/
def engineStep (p : Params) (s : State) : State :=
  match failingReads p s.eng (chosenPixels p s) with
  | first :: more => recordBusError (reportedRead p s first more) s
  | [] => accumulateBatch p s

/-- RESULT at a completion without error: ACC, or any value when a pixel was outside the operand domain
(40_kernel.md R130) or a footprint byte was written in flight (20_memory.md R75). -/
def completionResult (p : Params) (s : State) : Word :=
  if s.eng.ood || s.watch == .written then p.drawWord s.draws else s.eng.acc

/-- Completion without error (41_catalog_dispatch.md R152). -/
def completeOk (p : Params) (s : State) : State :=
  { s with
    result := completionResult p s
    status := statusOnCompletion p s.eng.ood s.status
    draws := s.draws + 1 }

/-- Completion with a bus error (41_catalog_dispatch.md R153, 60_exceptions.md R235); no result of this command
remains to be watched. -/
def completeBusError (addr : Word) (s : State) : State :=
  { raiseError .busError addr s with watch := .off }

/-- The engine's turn: nothing while BUSY = 0; else the one of R153, R152 and R151 that is enabled. -/
def engineTurn (p : Params) (s : State) : State :=
  if s.status.busy then
    match s.eng.berr with
    | some addr => completeBusError addr s
    | none => if s.eng.pend = [] then completeOk p s else engineStep p s
  else s

/-- `k` engine turns. -/
def runEngine (p : Params) : Nat → State → State
  | 0, s => s
  | k + 1, s => runEngine p k (engineTurn p s)

end Sys2Proof.Machine
end

