-- ==== Sys2Proof/Machine/Agents.lean ====
section
/-! DEFINITION. What reaches the machine beside the opcode table's instructions: a byte stored to memory by the host
or another agent (20_memory.md R60, R74, R75), a byte of memory read by the host (00_scope.md R9), the reset
input (70_reset_and_hazards.md R260 to R263), the refusals of accesses outside the format (42_host_access.md
R212), and the loop of POLL (30_encoding.md R100). -/

namespace Sys2Proof.Machine

/-- An address holds memory when some element read that contains it can succeed (20_memory.md R60: "which
addresses hold memory is the platform's (`MemOK`…)"; log entry 18). -/
def holdsMemory (p : Params) (addr : Word) : Bool :=
  [1, 2, 4].any fun n => p.memOk (BitVec.ofNat 32 (addr.toNat / n * n)) n

/-- RESULT and the watch after a footprint byte was written (20_memory.md R75): while the command is in flight the
completion will draw; between a successful completion and its observation RESULT is any value from now on
(log entry 6). -/
def disturb (p : Params) (s : State) : State :=
  match s.watch with
  | .stable =>
    if s.status.busy then { s with watch := .written }
    else { s with watch := .written, result := p.drawWord s.draws, draws := s.draws + 1 }
  | .off => s
  | .written => s

/-- A byte of memory written by the host or another agent. Only such a store can write a footprint byte: a host
register write to a window address that is also a footprint byte does not disturb RESULT (DESIGN CHOICE, unsafe,
log entry 22). -/
def storeByte (p : Params) (addr : Word) (byte : Byte) (s : State) : State :=
  let s' := if inFootprint s.eng addr then disturb p s else s
  { s' with mem := s'.mem.write addr.toNat byte }

/-- The outcome of a `store` input. -/
def hostStore (p : Params) (addr : Word) (byte : Byte) (s : State) : Host.Outcome State Fault Refusal :=
  if inWindow p addr then .refused .storeInWindow
  else if holdsMemory p addr then .next (storeByte p addr byte s)
  else .fault .storeUnmapped

/-- The byte memory answers a read of the host with, zero-extended into the data returned (00_scope.md R9: memory
"answers the engine's reads and the host's accesses"); nothing else changes. -/
def loadByte (p : Params) (addr : Word) (s : State) : State :=
  returnData ((memByte p s.mem addr).setWidth 32) s

/-- The outcome of a `load` input, possible where a `store` is (log entry 18). -/
def hostLoad (p : Params) (addr : Word) (s : State) : Host.Outcome State Fault Refusal :=
  if inWindow p addr then .refused .loadInWindow
  else if holdsMemory p addr then .next (loadByte p addr s)
  else .fault .loadUnmapped

/-- The reset input (70_reset_and_hazards.md R260, R261): every register and internal item at its reset value, a
command in flight abandoned; memory is untouched (R263), and so are the host's own fields and the draw
counter. -/
def engineReset (s : State) : State :=
  { State.reset with mem := s.mem, inputs := s.inputs, readData := s.readData, draws := s.draws }

/-- The refusal of a request outside the access format (42_host_access.md R212). -/
def refusalOf : DecodeError → Refusal
  | .accessSize => .accessSize
  | .accessUnaligned => .accessUnaligned
  | .accessOutsideWindow => .accessOutsideWindow

/-- `(data AND mask) = value` (30_encoding.md R100). -/
def pollMatches (mask value data : Word) : Bool := (data &&& mask) == value

/-- After one read of a POLL: the loop ends when the data matches; else the engine gets a turn and the loop reads
again (30_encoding.md R100; the engine's turn is weak fairness, log entry 17). -/
def pollAgain (offset : Nat) (mask value : Word) (s : State) : State :=
  if pollMatches mask value s.readData then s
  else { s with inputs := .engine :: .poll offset mask value :: s.inputs }

end Sys2Proof.Machine
end

