-- ==== Sys2Proof/Machine/Commands.lean ====
section
/-! DEFINITION. The 32 operations of the opcode table (41_catalog_dispatch.md R160 to R191). Each is the host's write
of its command word to CMD (30_encoding.md R99): ignored while busy, else accepted by R150; the engine's turns
(Engine.lean) then evaluate the kernel with the operation's own W, H and DEPTH and complete it. -/

namespace Sys2Proof.Machine

/-- `OBMCSAD.8.4x4` (41_catalog_dispatch.md R160). -/
def execObmcsad8_4x4 (s : State) : Host.Outcome State Fault Refusal :=
  .next (writeCommand 0x00000404#32 (baseOp 4 4 .narrow) s)

/-- `OBMCSAD.16.4x4` (41_catalog_dispatch.md R161). -/
def execObmcsad16_4x4 (s : State) : Host.Outcome State Fault Refusal :=
  .next (writeCommand 0x00010404#32 (baseOp 4 4 .wide) s)

/-- `OBMCSAD.8.8x8` (41_catalog_dispatch.md R162). -/
def execObmcsad8_8x8 (s : State) : Host.Outcome State Fault Refusal :=
  .next (writeCommand 0x00000808#32 (baseOp 8 8 .narrow) s)

/-- `OBMCSAD.16.8x8` (41_catalog_dispatch.md R163). -/
def execObmcsad16_8x8 (s : State) : Host.Outcome State Fault Refusal :=
  .next (writeCommand 0x00010808#32 (baseOp 8 8 .wide) s)

/-- `OBMCSAD.8.16x16` (41_catalog_dispatch.md R164). -/
def execObmcsad8_16x16 (s : State) : Host.Outcome State Fault Refusal :=
  .next (writeCommand 0x00001010#32 (baseOp 16 16 .narrow) s)

/-- `OBMCSAD.16.16x16` (41_catalog_dispatch.md R165). -/
def execObmcsad16_16x16 (s : State) : Host.Outcome State Fault Refusal :=
  .next (writeCommand 0x00011010#32 (baseOp 16 16 .wide) s)

/-- `OBMCSAD.8.32x32` (41_catalog_dispatch.md R166). -/
def execObmcsad8_32x32 (s : State) : Host.Outcome State Fault Refusal :=
  .next (writeCommand 0x00002020#32 (baseOp 32 32 .narrow) s)

/-- `OBMCSAD.16.32x32` (41_catalog_dispatch.md R167). -/
def execObmcsad16_32x32 (s : State) : Host.Outcome State Fault Refusal :=
  .next (writeCommand 0x00012020#32 (baseOp 32 32 .wide) s)

/-- `OBMCSAD.8.64x64` (41_catalog_dispatch.md R168). -/
def execObmcsad8_64x64 (s : State) : Host.Outcome State Fault Refusal :=
  .next (writeCommand 0x00004040#32 (baseOp 64 64 .narrow) s)

/-- `OBMCSAD.16.64x64` (41_catalog_dispatch.md R169). -/
def execObmcsad16_64x64 (s : State) : Host.Outcome State Fault Refusal :=
  .next (writeCommand 0x00014040#32 (baseOp 64 64 .wide) s)

/-- `OBMCSAD.8.4x8` (41_catalog_dispatch.md R170). -/
def execObmcsad8_4x8 (s : State) : Host.Outcome State Fault Refusal :=
  .next (writeCommand 0x00000804#32 (baseOp 4 8 .narrow) s)

/-- `OBMCSAD.16.4x8` (41_catalog_dispatch.md R171). -/
def execObmcsad16_4x8 (s : State) : Host.Outcome State Fault Refusal :=
  .next (writeCommand 0x00010804#32 (baseOp 4 8 .wide) s)

/-- `OBMCSAD.8.8x4` (41_catalog_dispatch.md R172). -/
def execObmcsad8_8x4 (s : State) : Host.Outcome State Fault Refusal :=
  .next (writeCommand 0x00000408#32 (baseOp 8 4 .narrow) s)

/-- `OBMCSAD.16.8x4` (41_catalog_dispatch.md R173). -/
def execObmcsad16_8x4 (s : State) : Host.Outcome State Fault Refusal :=
  .next (writeCommand 0x00010408#32 (baseOp 8 4 .wide) s)

/-- `OBMCSAD.8.8x16` (41_catalog_dispatch.md R174). -/
def execObmcsad8_8x16 (s : State) : Host.Outcome State Fault Refusal :=
  .next (writeCommand 0x00001008#32 (baseOp 8 16 .narrow) s)

/-- `OBMCSAD.16.8x16` (41_catalog_dispatch.md R175). -/
def execObmcsad16_8x16 (s : State) : Host.Outcome State Fault Refusal :=
  .next (writeCommand 0x00011008#32 (baseOp 8 16 .wide) s)

/-- `OBMCSAD.8.16x8` (41_catalog_dispatch.md R176). -/
def execObmcsad8_16x8 (s : State) : Host.Outcome State Fault Refusal :=
  .next (writeCommand 0x00000810#32 (baseOp 16 8 .narrow) s)

/-- `OBMCSAD.16.16x8` (41_catalog_dispatch.md R177). -/
def execObmcsad16_16x8 (s : State) : Host.Outcome State Fault Refusal :=
  .next (writeCommand 0x00010810#32 (baseOp 16 8 .wide) s)

/-- `OBMCSAD.8.16x32` (41_catalog_dispatch.md R178). -/
def execObmcsad8_16x32 (s : State) : Host.Outcome State Fault Refusal :=
  .next (writeCommand 0x00002010#32 (baseOp 16 32 .narrow) s)

/-- `OBMCSAD.16.16x32` (41_catalog_dispatch.md R179). -/
def execObmcsad16_16x32 (s : State) : Host.Outcome State Fault Refusal :=
  .next (writeCommand 0x00012010#32 (baseOp 16 32 .wide) s)

/-- `OBMCSAD.8.32x16` (41_catalog_dispatch.md R180). -/
def execObmcsad8_32x16 (s : State) : Host.Outcome State Fault Refusal :=
  .next (writeCommand 0x00001020#32 (baseOp 32 16 .narrow) s)

/-- `OBMCSAD.16.32x16` (41_catalog_dispatch.md R181). -/
def execObmcsad16_32x16 (s : State) : Host.Outcome State Fault Refusal :=
  .next (writeCommand 0x00011020#32 (baseOp 32 16 .wide) s)

/-- `OBMCSAD.8.32x64` (41_catalog_dispatch.md R182). -/
def execObmcsad8_32x64 (s : State) : Host.Outcome State Fault Refusal :=
  .next (writeCommand 0x00004020#32 (baseOp 32 64 .narrow) s)

/-- `OBMCSAD.16.32x64` (41_catalog_dispatch.md R183). -/
def execObmcsad16_32x64 (s : State) : Host.Outcome State Fault Refusal :=
  .next (writeCommand 0x00014020#32 (baseOp 32 64 .wide) s)

/-- `OBMCSAD.8.64x32` (41_catalog_dispatch.md R184). -/
def execObmcsad8_64x32 (s : State) : Host.Outcome State Fault Refusal :=
  .next (writeCommand 0x00002040#32 (baseOp 64 32 .narrow) s)

/-- `OBMCSAD.16.64x32` (41_catalog_dispatch.md R185). -/
def execObmcsad16_64x32 (s : State) : Host.Outcome State Fault Refusal :=
  .next (writeCommand 0x00012040#32 (baseOp 64 32 .wide) s)

/-- `OBMCSAD.8.128x128` (41_catalog_dispatch.md R186). -/
def execObmcsad8_128x128 (s : State) : Host.Outcome State Fault Refusal :=
  .next (writeCommand 0x00008080#32 (extOp 128 128 .narrow s) s)

/-- `OBMCSAD.16.128x128` (41_catalog_dispatch.md R187). -/
def execObmcsad16_128x128 (s : State) : Host.Outcome State Fault Refusal :=
  .next (writeCommand 0x00018080#32 (extOp 128 128 .wide s) s)

/-- `OBMCSAD.8.128x64` (41_catalog_dispatch.md R188). -/
def execObmcsad8_128x64 (s : State) : Host.Outcome State Fault Refusal :=
  .next (writeCommand 0x00004080#32 (extOp 128 64 .narrow s) s)

/-- `OBMCSAD.16.128x64` (41_catalog_dispatch.md R189). -/
def execObmcsad16_128x64 (s : State) : Host.Outcome State Fault Refusal :=
  .next (writeCommand 0x00014080#32 (extOp 128 64 .wide s) s)

/-- `OBMCSAD.8.64x128` (41_catalog_dispatch.md R190). -/
def execObmcsad8_64x128 (s : State) : Host.Outcome State Fault Refusal :=
  .next (writeCommand 0x00008040#32 (extOp 64 128 .narrow s) s)

/-- `OBMCSAD.16.64x128` (41_catalog_dispatch.md R191). -/
def execObmcsad16_64x128 (s : State) : Host.Outcome State Fault Refusal :=
  .next (writeCommand 0x00018040#32 (extOp 64 128 .wide s) s)

end Sys2Proof.Machine
end

