-- ==== Sys2Proof/Machine/HostReads.lean ====
section
/-! DEFINITION. The host's reads (42_host_access.md R200, R211): the register's value is returned, whatever BUSY
holds, and no engine state changes. -/

namespace Sys2Proof.Machine

/-- `RD CAP` (42_host_access.md R200, 10_state.md R23). -/
def execRdCap (s : State) : Host.Outcome State Fault Refusal :=
  .next (returnData (capWord platform) s)

/-- `RD CTRL` (42_host_access.md R200, 10_state.md R24). -/
def execRdCtrl (s : State) : Host.Outcome State Fault Refusal :=
  .next (returnData (ctrlWord s.ctrl) s)

/-- `RD STATUS` (42_host_access.md R200, 10_state.md R27). A read that shows BUSY = 0 and DONE = 1 is the
host's observation of the completion (20_memory.md R76). -/
def execRdStatus (s : State) : Host.Outcome State Fault Refusal :=
  .next (observeStatus (returnData (statusWord s.status) s))

/-- `RD CMD` (42_host_access.md R200, 10_state.md R34). -/
def execRdCmd (s : State) : Host.Outcome State Fault Refusal :=
  .next (returnData s.cmd s)

/-- `RD RESULT` (42_host_access.md R200, 10_state.md R35). -/
def execRdResult (s : State) : Host.Outcome State Fault Refusal :=
  .next (returnData s.result s)

/-- `RD ERRADDR` (42_host_access.md R200, 10_state.md R36). -/
def execRdErraddr (s : State) : Host.Outcome State Fault Refusal :=
  .next (returnData s.errAddr s)

/-- `RD REF_BASE` (42_host_access.md R200, 10_state.md R37). -/
def execRdRefBase (s : State) : Host.Outcome State Fault Refusal :=
  .next (returnData s.refBase s)

/-- `RD REF_STRIDE` (42_host_access.md R200, 10_state.md R38). -/
def execRdRefStride (s : State) : Host.Outcome State Fault Refusal :=
  .next (returnData s.refStride s)

/-- `RD WSRC_BASE` (42_host_access.md R200, 10_state.md R39). -/
def execRdWsrcBase (s : State) : Host.Outcome State Fault Refusal :=
  .next (returnData s.wsrcBase s)

/-- `RD MSK_BASE` (42_host_access.md R200, 10_state.md R40). -/
def execRdMskBase (s : State) : Host.Outcome State Fault Refusal :=
  .next (returnData s.mskBase s)

/-- `RD` of the reserved offset 0x28 returns 0 (42_host_access.md R211). -/
def execRdReserved28 (s : State) : Host.Outcome State Fault Refusal :=
  .next (returnData 0#32 s)

/-- `RD` of the reserved offset 0x2C returns 0 (42_host_access.md R211). -/
def execRdReserved2C (s : State) : Host.Outcome State Fault Refusal :=
  .next (returnData 0#32 s)

/-- `RD` of the reserved offset 0x30 returns 0 (42_host_access.md R211). -/
def execRdReserved30 (s : State) : Host.Outcome State Fault Refusal :=
  .next (returnData 0#32 s)

/-- `RD` of the reserved offset 0x34 returns 0 (42_host_access.md R211). -/
def execRdReserved34 (s : State) : Host.Outcome State Fault Refusal :=
  .next (returnData 0#32 s)

/-- `RD` of the reserved offset 0x38 returns 0 (42_host_access.md R211). -/
def execRdReserved38 (s : State) : Host.Outcome State Fault Refusal :=
  .next (returnData 0#32 s)

/-- `RD` of the reserved offset 0x3C returns 0 (42_host_access.md R211). -/
def execRdReserved3C (s : State) : Host.Outcome State Fault Refusal :=
  .next (returnData 0#32 s)

end Sys2Proof.Machine
end

