-- ==== Sys2Proof/Machine/HostWrites.lean ====
section
/-! DEFINITION. The host's writes (42_host_access.md R201 to R209, R211). -/

namespace Sys2Proof.Machine

/-- `WR CAP`: the register is read-only, the write has no effect (42_host_access.md R209). -/
def execWrCap (_data : Word) (s : State) : Host.Outcome State Fault Refusal :=
  .next s

/-- `WR CTRL, data` (42_host_access.md R202). -/
def execWrCtrl (data : Word) (s : State) : Host.Outcome State Fault Refusal :=
  .next (guardedWrite (fun s => { s with ctrl := ctrlWritten platform data }) s)

/-- `WR STATUS, data`, write one to clear, performed whatever BUSY holds; clearing ERR also clears ERRADDR
(42_host_access.md R203). It is no write of a footprint byte, wherever the footprint lies (DESIGN CHOICE, unsafe,
log entry 22). -/
def execWrStatus (data : Word) (s : State) : Host.Outcome State Fault Refusal :=
  .next { s with
      status := statusCleared data s.status
      errAddr := if data.getLsbD 2 then 0#32 else s.errAddr }

/-- `WR CMD, word`: decoded at acceptance with CTRL.EXT_EN (42_host_access.md R204, 41_catalog_dispatch.md R150). -/
def execWrCmd (word : Word) (s : State) : Host.Outcome State Fault Refusal :=
  .next (writeCommand word (decodeCommand word s.ctrl.extEn) s)

/-- `WR RESULT`: the register is read-only, the write has no effect (42_host_access.md R209). -/
def execWrResult (_data : Word) (s : State) : Host.Outcome State Fault Refusal :=
  .next s

/-- `WR ERRADDR`: the register is read-only, the write has no effect (42_host_access.md R209). -/
def execWrErraddr (_data : Word) (s : State) : Host.Outcome State Fault Refusal :=
  .next s

/-- `WR REF_BASE, data` (42_host_access.md R205). -/
def execWrRefBase (data : Word) (s : State) : Host.Outcome State Fault Refusal :=
  .next (guardedWrite (fun s => { s with refBase := data }) s)

/-- `WR REF_STRIDE, data` (42_host_access.md R206). -/
def execWrRefStride (data : Word) (s : State) : Host.Outcome State Fault Refusal :=
  .next (guardedWrite (fun s => { s with refStride := data }) s)

/-- `WR WSRC_BASE, data` (42_host_access.md R207). -/
def execWrWsrcBase (data : Word) (s : State) : Host.Outcome State Fault Refusal :=
  .next (guardedWrite (fun s => { s with wsrcBase := data }) s)

/-- `WR MSK_BASE, data` (42_host_access.md R208). -/
def execWrMskBase (data : Word) (s : State) : Host.Outcome State Fault Refusal :=
  .next (guardedWrite (fun s => { s with mskBase := data }) s)

/-- `WR` of the reserved offset 0x28 has no effect (42_host_access.md R211). -/
def execWrReserved28 (_data : Word) (s : State) : Host.Outcome State Fault Refusal :=
  .next s

/-- `WR` of the reserved offset 0x2C has no effect (42_host_access.md R211). -/
def execWrReserved2C (_data : Word) (s : State) : Host.Outcome State Fault Refusal :=
  .next s

/-- `WR` of the reserved offset 0x30 has no effect (42_host_access.md R211). -/
def execWrReserved30 (_data : Word) (s : State) : Host.Outcome State Fault Refusal :=
  .next s

/-- `WR` of the reserved offset 0x34 has no effect (42_host_access.md R211). -/
def execWrReserved34 (_data : Word) (s : State) : Host.Outcome State Fault Refusal :=
  .next s

/-- `WR` of the reserved offset 0x38 has no effect (42_host_access.md R211). -/
def execWrReserved38 (_data : Word) (s : State) : Host.Outcome State Fault Refusal :=
  .next s

/-- `WR` of the reserved offset 0x3C has no effect (42_host_access.md R211). -/
def execWrReserved3C (_data : Word) (s : State) : Host.Outcome State Fault Refusal :=
  .next s

end Sys2Proof.Machine
end

