-- ==== Sys2Proof/Machine/Rejects.lean ====
section
/-! DEFINITION. The 16 rejection rows of the CMD format (30_encoding.md R96): the host's write of a word that is no
operation, ignored while busy, else ending at once with its error (60_exceptions.md R232, R233). -/

namespace Sys2Proof.Machine

/-- A word whose first reserved bit is bit 17: RESERVED_CMD (60_exceptions.md R233). -/
def execRejectReservedBit17 (word : Word) (s : State) : Host.Outcome State Fault Refusal :=
  .next (writeCommand word (.reject .reservedCmd) s)

/-- A word whose first reserved bit is bit 18: RESERVED_CMD (60_exceptions.md R233). -/
def execRejectReservedBit18 (word : Word) (s : State) : Host.Outcome State Fault Refusal :=
  .next (writeCommand word (.reject .reservedCmd) s)

/-- A word whose first reserved bit is bit 19: RESERVED_CMD (60_exceptions.md R233). -/
def execRejectReservedBit19 (word : Word) (s : State) : Host.Outcome State Fault Refusal :=
  .next (writeCommand word (.reject .reservedCmd) s)

/-- A word whose first reserved bit is bit 20: RESERVED_CMD (60_exceptions.md R233). -/
def execRejectReservedBit20 (word : Word) (s : State) : Host.Outcome State Fault Refusal :=
  .next (writeCommand word (.reject .reservedCmd) s)

/-- A word whose first reserved bit is bit 21: RESERVED_CMD (60_exceptions.md R233). -/
def execRejectReservedBit21 (word : Word) (s : State) : Host.Outcome State Fault Refusal :=
  .next (writeCommand word (.reject .reservedCmd) s)

/-- A word whose first reserved bit is bit 22: RESERVED_CMD (60_exceptions.md R233). -/
def execRejectReservedBit22 (word : Word) (s : State) : Host.Outcome State Fault Refusal :=
  .next (writeCommand word (.reject .reservedCmd) s)

/-- A word whose first reserved bit is bit 23: RESERVED_CMD (60_exceptions.md R233). -/
def execRejectReservedBit23 (word : Word) (s : State) : Host.Outcome State Fault Refusal :=
  .next (writeCommand word (.reject .reservedCmd) s)

/-- A word whose first reserved bit is bit 24: RESERVED_CMD (60_exceptions.md R233). -/
def execRejectReservedBit24 (word : Word) (s : State) : Host.Outcome State Fault Refusal :=
  .next (writeCommand word (.reject .reservedCmd) s)

/-- A word whose first reserved bit is bit 25: RESERVED_CMD (60_exceptions.md R233). -/
def execRejectReservedBit25 (word : Word) (s : State) : Host.Outcome State Fault Refusal :=
  .next (writeCommand word (.reject .reservedCmd) s)

/-- A word whose first reserved bit is bit 26: RESERVED_CMD (60_exceptions.md R233). -/
def execRejectReservedBit26 (word : Word) (s : State) : Host.Outcome State Fault Refusal :=
  .next (writeCommand word (.reject .reservedCmd) s)

/-- A word whose first reserved bit is bit 27: RESERVED_CMD (60_exceptions.md R233). -/
def execRejectReservedBit27 (word : Word) (s : State) : Host.Outcome State Fault Refusal :=
  .next (writeCommand word (.reject .reservedCmd) s)

/-- A word whose first reserved bit is bit 28: RESERVED_CMD (60_exceptions.md R233). -/
def execRejectReservedBit28 (word : Word) (s : State) : Host.Outcome State Fault Refusal :=
  .next (writeCommand word (.reject .reservedCmd) s)

/-- A word whose first reserved bit is bit 29: RESERVED_CMD (60_exceptions.md R233). -/
def execRejectReservedBit29 (word : Word) (s : State) : Host.Outcome State Fault Refusal :=
  .next (writeCommand word (.reject .reservedCmd) s)

/-- A word whose first reserved bit is bit 30: RESERVED_CMD (60_exceptions.md R233). -/
def execRejectReservedBit30 (word : Word) (s : State) : Host.Outcome State Fault Refusal :=
  .next (writeCommand word (.reject .reservedCmd) s)

/-- A word whose first reserved bit is bit 31: RESERVED_CMD (60_exceptions.md R233). -/
def execRejectReservedBit31 (word : Word) (s : State) : Host.Outcome State Fault Refusal :=
  .next (writeCommand word (.reject .reservedCmd) s)

/-- A word with no reserved bit and no catalog shape: UNSUPPORTED_SHAPE (60_exceptions.md R232). -/
def execRejectUnsupportedShape (word : Word) (s : State) : Host.Outcome State Fault Refusal :=
  .next (writeCommand word (.reject .unsupportedShape) s)

end Sys2Proof.Machine
end

