-- ==== Sys2Proof/Machine/Dispatch.lean ====
section
/-! DEFINITION. Which meaning each instruction has: one arm per constructor of Instr. -/

namespace Sys2Proof.Machine

def exec (i : Instr) (s : State) : Host.Outcome State Fault Refusal :=
  match i with
  | .rejectReservedBit17 word => Sys2Proof.Machine.execRejectReservedBit17 word s
  | .rejectReservedBit18 word => Sys2Proof.Machine.execRejectReservedBit18 word s
  | .rejectReservedBit19 word => Sys2Proof.Machine.execRejectReservedBit19 word s
  | .rejectReservedBit20 word => Sys2Proof.Machine.execRejectReservedBit20 word s
  | .rejectReservedBit21 word => Sys2Proof.Machine.execRejectReservedBit21 word s
  | .rejectReservedBit22 word => Sys2Proof.Machine.execRejectReservedBit22 word s
  | .rejectReservedBit23 word => Sys2Proof.Machine.execRejectReservedBit23 word s
  | .rejectReservedBit24 word => Sys2Proof.Machine.execRejectReservedBit24 word s
  | .rejectReservedBit25 word => Sys2Proof.Machine.execRejectReservedBit25 word s
  | .rejectReservedBit26 word => Sys2Proof.Machine.execRejectReservedBit26 word s
  | .rejectReservedBit27 word => Sys2Proof.Machine.execRejectReservedBit27 word s
  | .rejectReservedBit28 word => Sys2Proof.Machine.execRejectReservedBit28 word s
  | .rejectReservedBit29 word => Sys2Proof.Machine.execRejectReservedBit29 word s
  | .rejectReservedBit30 word => Sys2Proof.Machine.execRejectReservedBit30 word s
  | .rejectReservedBit31 word => Sys2Proof.Machine.execRejectReservedBit31 word s
  | .obmcsad8_4x4 => Sys2Proof.Machine.execObmcsad8_4x4 s
  | .obmcsad16_4x4 => Sys2Proof.Machine.execObmcsad16_4x4 s
  | .obmcsad8_8x8 => Sys2Proof.Machine.execObmcsad8_8x8 s
  | .obmcsad16_8x8 => Sys2Proof.Machine.execObmcsad16_8x8 s
  | .obmcsad8_16x16 => Sys2Proof.Machine.execObmcsad8_16x16 s
  | .obmcsad16_16x16 => Sys2Proof.Machine.execObmcsad16_16x16 s
  | .obmcsad8_32x32 => Sys2Proof.Machine.execObmcsad8_32x32 s
  | .obmcsad16_32x32 => Sys2Proof.Machine.execObmcsad16_32x32 s
  | .obmcsad8_64x64 => Sys2Proof.Machine.execObmcsad8_64x64 s
  | .obmcsad16_64x64 => Sys2Proof.Machine.execObmcsad16_64x64 s
  | .obmcsad8_4x8 => Sys2Proof.Machine.execObmcsad8_4x8 s
  | .obmcsad16_4x8 => Sys2Proof.Machine.execObmcsad16_4x8 s
  | .obmcsad8_8x4 => Sys2Proof.Machine.execObmcsad8_8x4 s
  | .obmcsad16_8x4 => Sys2Proof.Machine.execObmcsad16_8x4 s
  | .obmcsad8_8x16 => Sys2Proof.Machine.execObmcsad8_8x16 s
  | .obmcsad16_8x16 => Sys2Proof.Machine.execObmcsad16_8x16 s
  | .obmcsad8_16x8 => Sys2Proof.Machine.execObmcsad8_16x8 s
  | .obmcsad16_16x8 => Sys2Proof.Machine.execObmcsad16_16x8 s
  | .obmcsad8_16x32 => Sys2Proof.Machine.execObmcsad8_16x32 s
  | .obmcsad16_16x32 => Sys2Proof.Machine.execObmcsad16_16x32 s
  | .obmcsad8_32x16 => Sys2Proof.Machine.execObmcsad8_32x16 s
  | .obmcsad16_32x16 => Sys2Proof.Machine.execObmcsad16_32x16 s
  | .obmcsad8_32x64 => Sys2Proof.Machine.execObmcsad8_32x64 s
  | .obmcsad16_32x64 => Sys2Proof.Machine.execObmcsad16_32x64 s
  | .obmcsad8_64x32 => Sys2Proof.Machine.execObmcsad8_64x32 s
  | .obmcsad16_64x32 => Sys2Proof.Machine.execObmcsad16_64x32 s
  | .obmcsad8_128x128 => Sys2Proof.Machine.execObmcsad8_128x128 s
  | .obmcsad16_128x128 => Sys2Proof.Machine.execObmcsad16_128x128 s
  | .obmcsad8_128x64 => Sys2Proof.Machine.execObmcsad8_128x64 s
  | .obmcsad16_128x64 => Sys2Proof.Machine.execObmcsad16_128x64 s
  | .obmcsad8_64x128 => Sys2Proof.Machine.execObmcsad8_64x128 s
  | .obmcsad16_64x128 => Sys2Proof.Machine.execObmcsad16_64x128 s
  | .rejectUnsupportedShape word => Sys2Proof.Machine.execRejectUnsupportedShape word s
  | .rdCap => Sys2Proof.Machine.execRdCap s
  | .rdCtrl => Sys2Proof.Machine.execRdCtrl s
  | .rdStatus => Sys2Proof.Machine.execRdStatus s
  | .rdCmd => Sys2Proof.Machine.execRdCmd s
  | .rdResult => Sys2Proof.Machine.execRdResult s
  | .rdErraddr => Sys2Proof.Machine.execRdErraddr s
  | .rdRefBase => Sys2Proof.Machine.execRdRefBase s
  | .rdRefStride => Sys2Proof.Machine.execRdRefStride s
  | .rdWsrcBase => Sys2Proof.Machine.execRdWsrcBase s
  | .rdMskBase => Sys2Proof.Machine.execRdMskBase s
  | .wrCap data => Sys2Proof.Machine.execWrCap data s
  | .wrCtrl data => Sys2Proof.Machine.execWrCtrl data s
  | .wrStatus data => Sys2Proof.Machine.execWrStatus data s
  | .wrCmd data => Sys2Proof.Machine.execWrCmd data s
  | .wrResult data => Sys2Proof.Machine.execWrResult data s
  | .wrErraddr data => Sys2Proof.Machine.execWrErraddr data s
  | .wrRefBase data => Sys2Proof.Machine.execWrRefBase data s
  | .wrRefStride data => Sys2Proof.Machine.execWrRefStride data s
  | .wrWsrcBase data => Sys2Proof.Machine.execWrWsrcBase data s
  | .wrMskBase data => Sys2Proof.Machine.execWrMskBase data s
  | .rdReserved28 => Sys2Proof.Machine.execRdReserved28 s
  | .wrReserved28 data => Sys2Proof.Machine.execWrReserved28 data s
  | .rdReserved2C => Sys2Proof.Machine.execRdReserved2C s
  | .wrReserved2C data => Sys2Proof.Machine.execWrReserved2C data s
  | .rdReserved30 => Sys2Proof.Machine.execRdReserved30 s
  | .wrReserved30 data => Sys2Proof.Machine.execWrReserved30 data s
  | .rdReserved34 => Sys2Proof.Machine.execRdReserved34 s
  | .wrReserved34 data => Sys2Proof.Machine.execWrReserved34 data s
  | .rdReserved38 => Sys2Proof.Machine.execRdReserved38 s
  | .wrReserved38 data => Sys2Proof.Machine.execWrReserved38 data s
  | .rdReserved3C => Sys2Proof.Machine.execRdReserved3C s
  | .wrReserved3C data => Sys2Proof.Machine.execWrReserved3C data s

end Sys2Proof.Machine
end

