-- ==== Sys2Proof/Machine/Inputs.lean ====
section
/-! DEFINITION. How one input acts: a request is decoded and its instruction executed (there is no instruction
fetch: the engine executes what the host puts on the bus, 10_state.md R47), a POLL reads once, a store, a load, the reset
input and an engine turn have their effect. -/

namespace Sys2Proof.Machine

/-- A request is decoded and executed; one outside the access format is refused (42_host_access.md R212). -/
def runRequest (r : Request) (s : State) : Host.Outcome State Fault Refusal :=
  match decode r with
  | .ok i => exec i s
  | .error e => .refused (refusalOf e)

/-- One read of a POLL loop, and whether it goes on (30_encoding.md R100). -/
def runPoll (offset : Nat) (mask value : Word) (s : State) : Host.Outcome State Fault Refusal :=
  match runRequest (.access false offset 4 0#32) s with
  | .next s' => .next (pollAgain offset mask value s')
  | .fault r => .fault r
  | .refused r => .refused r

/-- The effect of one input on the state it has been taken from. -/
def runInput (input : Input) (s : State) : Host.Outcome State Fault Refusal :=
  match input with
  | .request r => runRequest r s
  | .poll offset mask value => runPoll offset mask value s
  | .store addr byte => hostStore platform addr byte s
  | .load addr => hostLoad platform addr s
  | .reset => .next (engineReset s)
  | .engine => .next (engineTurn platform s)

end Sys2Proof.Machine
end

