-- ==== Sys2Proof/Machine/Step.lean ====
section
/-! DEFINITION. One step of the machine: the next input, or the engine's turn when there is none. -/

namespace Sys2Proof.Machine

/-- One step: the first input is taken off the list and acts on the rest; with no input left the engine takes its
turn (00_scope.md R9, 42_host_access.md R210, 70_reset_and_hazards.md R272; log entry 2). -/
def step (s : State) : Host.Outcome State Fault Refusal :=
  match s.inputs with
  | [] => .next (engineTurn platform s)
  | input :: rest => runInput input { s with inputs := rest }

/-- The state with this opcode-table word as the host's next request. -/
def State.withFetchWord (s : State) (nbits w : Nat) : State :=
  { s with inputs := .request (tableRequest nbits w) :: s.inputs }

end Sys2Proof.Machine
end

