-- ==== Sys2Proof/Safety.lean ====
section
/-! DEFINITION. The terms in which statements speak of good states and good runs: the machine's invariant, a command
whose footprint the engine can read, the kernel of a command over the memory it sees. -/

namespace Sys2Proof.Machine

/-- The 26 operations whose shape is in BASE, with the shape and depth their mnemonics name
(30_encoding.md R93, R99). -/
def baseOperations : List (Instr × Nat × Nat × Depth) :=
  [(.obmcsad8_4x4, 4, 4, .narrow), (.obmcsad16_4x4, 4, 4, .wide),
    (.obmcsad8_8x8, 8, 8, .narrow), (.obmcsad16_8x8, 8, 8, .wide),
    (.obmcsad8_16x16, 16, 16, .narrow), (.obmcsad16_16x16, 16, 16, .wide),
    (.obmcsad8_32x32, 32, 32, .narrow), (.obmcsad16_32x32, 32, 32, .wide),
    (.obmcsad8_64x64, 64, 64, .narrow), (.obmcsad16_64x64, 64, 64, .wide),
    (.obmcsad8_4x8, 4, 8, .narrow), (.obmcsad16_4x8, 4, 8, .wide),
    (.obmcsad8_8x4, 8, 4, .narrow), (.obmcsad16_8x4, 8, 4, .wide),
    (.obmcsad8_8x16, 8, 16, .narrow), (.obmcsad16_8x16, 8, 16, .wide),
    (.obmcsad8_16x8, 16, 8, .narrow), (.obmcsad16_16x8, 16, 8, .wide),
    (.obmcsad8_16x32, 16, 32, .narrow), (.obmcsad16_16x32, 16, 32, .wide),
    (.obmcsad8_32x16, 32, 16, .narrow), (.obmcsad16_32x16, 32, 16, .wide),
    (.obmcsad8_32x64, 32, 64, .narrow), (.obmcsad16_32x64, 32, 64, .wide),
    (.obmcsad8_64x32, 64, 32, .narrow), (.obmcsad16_64x32, 64, 32, .wide)]

/-- The 6 operations whose shape is in EXT (30_encoding.md R93, R99). -/
def extOperations : List (Instr × Nat × Nat × Depth) :=
  [(.obmcsad8_128x128, 128, 128, .narrow), (.obmcsad16_128x128, 128, 128, .wide),
    (.obmcsad8_128x64, 128, 64, .narrow), (.obmcsad16_128x64, 128, 64, .wide),
    (.obmcsad8_64x128, 64, 128, .narrow), (.obmcsad16_64x128, 64, 128, .wide)]

/-- The 15 RESERVED_CMD rows of the opcode table (60_exceptions.md R233). -/
def reservedRejections : List (Word → Instr) :=
  [.rejectReservedBit17, .rejectReservedBit18, .rejectReservedBit19, .rejectReservedBit20,
    .rejectReservedBit21, .rejectReservedBit22, .rejectReservedBit23, .rejectReservedBit24,
    .rejectReservedBit25, .rejectReservedBit26, .rejectReservedBit27, .rejectReservedBit28,
    .rejectReservedBit29, .rejectReservedBit30, .rejectReservedBit31]

/-- The base alignment of a latched command (20_memory.md R66). -/
def Engine.aligned (e : Engine) : Prop :=
  (e.depth = .wide → e.rb.toNat % 2 = 0) ∧ e.wb.toNat % 4 = 0 ∧ e.mb.toNat % 4 = 0

/-- What every step keeps: memory in its canonical form; the hardwired bits (10_state.md R25, R31); ERRCODE and
ERRADDR 0 without an error (R33, R36) and ERRCODE not 0 with one; OVF never with an error (60_exceptions.md
R236, R238); while a command is in flight only BUSY and WIGN can be 1 (42_host_access.md R203), its shape is in
the catalog, its bases are aligned, PEND holds some of its pixels, in order, and its footprint is watched; an
idle engine has nothing pending (60_exceptions.md R230). -/
structure Inv (p : Params) (s : State) : Prop where
  memory : s.mem.wf = true
  extHardwired : p.extCap = false → s.ctrl.extEn = false
  ovfHardwired : p.diagOvf = false → s.status.ovf = false
  errCode : s.status.err = false ↔ s.status.errCode = .none
  errAddr : s.status.err = false → s.errAddr = 0#32
  ovfNoError : s.status.ovf = true → s.status.err = false
  busyClear : s.status.busy = true → s.status.done = false ∧ s.status.err = false ∧ s.status.ovf = false
  idle : s.status.busy = false → s.eng.pend = []
  shape : s.status.busy = true → (s.eng.w, s.eng.h) ∈ baseShapes ++ extShapes
  aligned : s.status.busy = true → s.eng.aligned
  pendSorted : s.eng.pend.Pairwise (· < ·)
  pendBound : ∀ n ∈ s.eng.pend, n < s.eng.w * s.eng.h
  watched : s.status.busy = true → s.watch ≠ .off

/-- A command has just been accepted: BUSY with every pixel pending and nothing accumulated
(41_catalog_dispatch.md R150). -/
structure JustAccepted (s : State) : Prop where
  busy : s.status.busy = true
  pend : s.eng.pend = List.range (s.eng.w * s.eng.h)
  acc : s.eng.acc = 0#32
  ood : s.eng.ood = false
  berr : s.eng.berr = none

/-- Every element read of the latched command succeeds (00_scope.md R12). -/
def FootprintReadable (p : Params) (e : Engine) : Prop :=
  ∀ n, n < e.w * e.h → ∀ elem, p.memOk (elemAddr e elem n) (elemSize e.depth elem) = true

/-- No byte of the footprint lies in the engine's own register window (20_memory.md R72). -/
def FootprintOutsideWindow (p : Params) (e : Engine) : Prop :=
  ∀ addr, inFootprint e addr = true → inWindow p addr = false

/-- Memory as the source of bytes of every pixel: the snapshot of 20_memory.md R77. -/
def snapshot (p : Params) (m : Memory) : Nat → Elem → Word → Byte := fun _ _ addr => memByte p m addr

/-- The kernel of the latched command over memory as it stands (40_kernel.md R120, 20_memory.md R77). -/
def kernelOf (p : Params) (s : State) : Word × Bool := kernel (snapshot p s.mem) s.eng

end Sys2Proof.Machine
end

