-- ==== Sys2Proof/WellFormed.lean ====
section
/-! DEFINITION. Which instructions the encoding admits: a RESERVED_CMD row's word has that row's bit as its first
reserved bit, and the UNSUPPORTED_SHAPE row's word has no reserved bit and no catalog shape
(30_encoding.md R94, R96). Every other instruction's operands are unrestricted. -/

namespace Sys2Proof

/-- Bit `k` is the lowest of bits 31:17 that is set in the word. -/
def firstReservedBit (k : Nat) (word : Word) : Bool :=
  word.getLsbD k && (List.range k).all (fun j => decide (j < 17) || !word.getLsbD j)

/-- The word has no reserved bit set and its (W, H) is in neither BASE nor EXT. -/
def shapeOutsideCatalog (word : Word) : Bool :=
  fieldReserved word == 0 && !(baseShapes ++ extShapes).contains (fieldW word, fieldH word)

/-- The well-formed instructions. -/
def Instr.wellFormed : Instr → Bool
  | .rejectReservedBit17 word => firstReservedBit 17 word
  | .rejectReservedBit18 word => firstReservedBit 18 word
  | .rejectReservedBit19 word => firstReservedBit 19 word
  | .rejectReservedBit20 word => firstReservedBit 20 word
  | .rejectReservedBit21 word => firstReservedBit 21 word
  | .rejectReservedBit22 word => firstReservedBit 22 word
  | .rejectReservedBit23 word => firstReservedBit 23 word
  | .rejectReservedBit24 word => firstReservedBit 24 word
  | .rejectReservedBit25 word => firstReservedBit 25 word
  | .rejectReservedBit26 word => firstReservedBit 26 word
  | .rejectReservedBit27 word => firstReservedBit 27 word
  | .rejectReservedBit28 word => firstReservedBit 28 word
  | .rejectReservedBit29 word => firstReservedBit 29 word
  | .rejectReservedBit30 word => firstReservedBit 30 word
  | .rejectReservedBit31 word => firstReservedBit 31 word
  | .obmcsad8_4x4 => true
  | .obmcsad16_4x4 => true
  | .obmcsad8_8x8 => true
  | .obmcsad16_8x8 => true
  | .obmcsad8_16x16 => true
  | .obmcsad16_16x16 => true
  | .obmcsad8_32x32 => true
  | .obmcsad16_32x32 => true
  | .obmcsad8_64x64 => true
  | .obmcsad16_64x64 => true
  | .obmcsad8_4x8 => true
  | .obmcsad16_4x8 => true
  | .obmcsad8_8x4 => true
  | .obmcsad16_8x4 => true
  | .obmcsad8_8x16 => true
  | .obmcsad16_8x16 => true
  | .obmcsad8_16x8 => true
  | .obmcsad16_16x8 => true
  | .obmcsad8_16x32 => true
  | .obmcsad16_16x32 => true
  | .obmcsad8_32x16 => true
  | .obmcsad16_32x16 => true
  | .obmcsad8_32x64 => true
  | .obmcsad16_32x64 => true
  | .obmcsad8_64x32 => true
  | .obmcsad16_64x32 => true
  | .obmcsad8_128x128 => true
  | .obmcsad16_128x128 => true
  | .obmcsad8_128x64 => true
  | .obmcsad16_128x64 => true
  | .obmcsad8_64x128 => true
  | .obmcsad16_64x128 => true
  | .rejectUnsupportedShape word => shapeOutsideCatalog word
  | .rdCap => true
  | .rdCtrl => true
  | .rdStatus => true
  | .rdCmd => true
  | .rdResult => true
  | .rdErraddr => true
  | .rdRefBase => true
  | .rdRefStride => true
  | .rdWsrcBase => true
  | .rdMskBase => true
  | .wrCap _ => true
  | .wrCtrl _ => true
  | .wrStatus _ => true
  | .wrCmd _ => true
  | .wrResult _ => true
  | .wrErraddr _ => true
  | .wrRefBase _ => true
  | .wrRefStride _ => true
  | .wrWsrcBase _ => true
  | .wrMskBase _ => true
  | .rdReserved28 => true
  | .wrReserved28 _ => true
  | .rdReserved2C => true
  | .wrReserved2C _ => true
  | .rdReserved30 => true
  | .wrReserved30 _ => true
  | .rdReserved34 => true
  | .wrReserved34 _ => true
  | .rdReserved38 => true
  | .wrReserved38 _ => true
  | .rdReserved3C => true
  | .wrReserved3C _ => true

end Sys2Proof
end

