-- ==== Sys2Proof/Certificates/Slice0/Obligations.lean ====
section
/-! DEFINITION. The statements: what the spec's numbered rules say of decoding, host accesses, acceptance, the
engine's turns, the kernel, errors, reset and the machine's invariant. Statements about the engine hold for
every value of the parameters and free values (`p : Params`). -/

open Sys2Proof Sys2Proof.Machine

/-! ## Encoding -/

/-- 30_encoding.md R95, R98: the decoder reads every well-formed instruction back from its encoding. -/
def Obligations.DecodeInvertsEncode : Prop :=
  ∀ i : Instr, i.wellFormed = true → decode (encode i) = .ok i

/-- 30_encoding.md R94, R97: every 32-bit word is exactly one well-formed CMD-format instruction, and encoding
that instruction gives the word back. -/
def Obligations.EveryCommandWordIsOneRow : Prop :=
  ∀ word : Word, ∃ i : Instr, decode (.command word) = .ok i ∧ i.wellFormed = true ∧ encode i = .command word

/-- 30_encoding.md R98, 42_host_access.md R212: an access decodes exactly when it is in the access format. -/
def Obligations.AccessDecodesIffInFormat : Prop :=
  ∀ (write : Bool) (offset size : Nat) (data : Word),
    (∃ i, decode (.access write offset size data) = .ok i) ↔ (size = 4 ∧ offset % 4 = 0 ∧ offset < 64)

/-- 30_encoding.md R95, R96, R98: some words and keys of the spec's tables and what they decode to. -/
def Obligations.SpecWordsDecode : Prop :=
  decode (.command 0x00000404#32) = .ok .obmcsad8_4x4
    ∧ decode (.command 0x00010408#32) = .ok .obmcsad16_8x4
    ∧ decode (.command 0x00018040#32) = .ok .obmcsad16_64x128
    ∧ decode (.command 0x00030404#32) = .ok (.rejectReservedBit17 0x00030404#32)
    ∧ decode (.command 0x80000000#32) = .ok (.rejectReservedBit31 0x80000000#32)
    ∧ decode (.command 0x00001004#32) = .ok (.rejectUnsupportedShape 0x00001004#32)
    ∧ decode (.access false 0x08 4 0#32) = .ok .rdStatus
    ∧ decode (.access true 0x04 4 3#32) = .ok (.wrCtrl 3#32)

/-- 30_encoding.md R94: the engine's Decode, read off the word's value: bits 31:17 first, then the catalog. -/
def Obligations.DecodeChecksReservedBitsThenShape : Prop :=
  ∀ (word : Word) (ext : Bool),
    decodeCommand word ext =
      if word.toNat / 131072 ≠ 0 then .reject .reservedCmd
      else if (word.toNat % 256, word.toNat / 256 % 256) ∈
          [(4, 4), (8, 8), (16, 16), (32, 32), (64, 64), (4, 8), (8, 4), (8, 16), (16, 8), (16, 32), (32, 16),
            (32, 64), (64, 32)] ∨
          (ext = true ∧ (word.toNat % 256, word.toNat / 256 % 256) ∈ [(128, 128), (128, 64), (64, 128)]) then
        .op (word.toNat % 256) (word.toNat / 256 % 256)
          (if word.toNat / 65536 % 2 = 1 then Depth.wide else Depth.narrow)
      else .reject .unsupportedShape

/-- 30_encoding.md R99: the row a command word decodes to has exactly the effect of the host write of that word to
CMD, in the instruction and in the step that fetches it. -/
def Obligations.CommandWordIsCmdWrite : Prop :=
  (∀ (word : Word) (s : State), exec (decodeCommandWord word) s = exec (.wrCmd word) s)
    ∧ ∀ (word : Word) (s : State) (rest : List Input),
        step { s with inputs := .request (.command word) :: rest } =
          step { s with inputs := .request (.access true 0x0C 4 word) :: rest }

/-! ## Steps -/

/-- 42_host_access.md R210, 10_state.md R47: when the next input is a request that decodes to `i`, the step takes
the input off the list and is exec of `i`. -/
def Obligations.StepRunsDecodedInstruction : Prop :=
  ∀ (s : State) (r : Request) (rest : List Input) (i : Instr),
    s.inputs = .request r :: rest → decode r = .ok i → step s = exec i { s with inputs := rest }

/-- 42_host_access.md R212: an access of another size, at an offset that is not a multiple of 4, or outside the
64-byte window is refused, under the name of the first that applies. -/
def Obligations.OutOfFormatAccessIsRefused : Prop :=
  ∀ (s : State) (write : Bool) (offset size : Nat) (data : Word) (rest : List Input),
    s.inputs = .request (.access write offset size data) :: rest →
      (size ≠ 4 → step s = .refused .accessSize)
        ∧ (size = 4 → offset % 4 ≠ 0 → step s = .refused .accessUnaligned)
        ∧ (size = 4 → offset % 4 = 0 → 64 ≤ offset → step s = .refused .accessOutsideWindow)

/-- 41_catalog_dispatch.md R151, 70_reset_and_hazards.md R272, as the model schedules them (log entry 2, the model's
choice): with no input, or at an engine turn, the step is the engine's turn. -/
def Obligations.StepGivesTheEngineItsTurn : Prop :=
  ∀ s : State,
    (s.inputs = [] → step s = .next (engineTurn platform s))
      ∧ ∀ rest, s.inputs = .engine :: rest → step s = .next (engineTurn platform { s with inputs := rest })

/-- 30_encoding.md R100: one read of POLL; the loop ends when `(data AND mask) = value`. That the engine gets a turn
before the next read is the model's choice (log entry 17). -/
def Obligations.PollReadsUntilMatch : Prop :=
  ∀ (s t : State) (offset : Nat) (mask value : Word) (rest : List Input) (i : Instr),
    s.inputs = .poll offset mask value :: rest → decode (.access false offset 4 0#32) = .ok i →
      exec i { s with inputs := rest } = .next t →
        step s = .next (if t.readData &&& mask = value then t
          else { t with inputs := .engine :: .poll offset mask value :: rest })

/-- 70_reset_and_hazards.md R260, R261, R263: the reset input puts every register and every internal item at its
reset value, abandons a command in flight, makes IRQ 0 and leaves memory alone. -/
def Obligations.ResetInputResetsTheEngine : Prop :=
  ∀ (s : State) (rest : List Input), s.inputs = .reset :: rest →
    ∃ t, step s = .next t ∧ t.ctrl = ⟨false, false⟩
      ∧ t.status = ⟨false, false, false, false, false, .none⟩
      ∧ t.cmd = 0#32 ∧ t.result = 0#32 ∧ t.errAddr = 0#32
      ∧ t.refBase = 0#32 ∧ t.refStride = 0#32 ∧ t.wsrcBase = 0#32 ∧ t.mskBase = 0#32
      ∧ t.eng = ⟨0, 0, .narrow, 0#32, 0#32, 0#32, 0#32, 0#32, [], false, none⟩
      ∧ t.irq = false ∧ t.mem = s.mem ∧ t.inputs = rest ∧ t.readData = s.readData

/-- 70_reset_and_hazards.md R260, R262: what reset leaves. -/
def Obligations.StateAfterReset : Prop :=
  State.reset.ctrl = ⟨false, false⟩
    ∧ State.reset.status = ⟨false, false, false, false, false, .none⟩
    ∧ State.reset.cmd = 0#32 ∧ State.reset.result = 0#32 ∧ State.reset.errAddr = 0#32
    ∧ State.reset.refBase = 0#32 ∧ State.reset.refStride = 0#32
    ∧ State.reset.wsrcBase = 0#32 ∧ State.reset.mskBase = 0#32
    ∧ State.reset.eng = ⟨0, 0, .narrow, 0#32, 0#32, 0#32, 0#32, 0#32, [], false, none⟩
    ∧ State.reset.irq = false

/-- 20_memory.md R60, R74: a byte stored to memory by the host is the byte memory then holds there, every other byte
of memory is as before, and so is everything else unless the byte lies in a footprint that must be stable (20_memory.md R75; the
watch is the model's own field, log entry 6). -/
def Obligations.HostStoreWritesOneByte : Prop :=
  ∀ (p : Params) (s : State) (addr : Word) (byte : Byte),
    inWindow p addr = false → holdsMemory p addr = true →
      ∃ t, hostStore p addr byte s = .next t
        ∧ t.mem.read addr.toNat = some byte
        ∧ (∀ a, a ≠ addr.toNat → t.mem.read a = s.mem.read a)
        ∧ (s.watch ≠ .stable ∨ inFootprint s.eng addr = false → t = { s with mem := t.mem })

/-- 00_scope.md R9: memory answers the host's accesses: a load of a byte returns the byte memory holds and changes
nothing else, and after a store of a byte it returns that byte; the step performs the loads and stores of the
list of inputs. (Where a load or a store is possible is the model's choice, log entry 18.) -/
def Obligations.HostLoadReturnsMemory : Prop :=
  (∀ (p : Params) (s : State) (addr : Word), inWindow p addr = false → holdsMemory p addr = true →
      hostLoad p addr s = .next { s with readData := BitVec.ofNat 32 (memByte p s.mem addr).toNat }
        ∧ ∀ byte : Byte, ∃ t, hostStore p addr byte s = .next t
            ∧ hostLoad p addr t = .next { t with readData := BitVec.ofNat 32 byte.toNat })
    ∧ ∀ (s : State) (rest : List Input) (addr : Word),
      (s.inputs = .load addr :: rest → step s = hostLoad platform addr { s with inputs := rest })
        ∧ ∀ byte : Byte, s.inputs = .store addr byte :: rest →
            step s = hostStore platform addr byte { s with inputs := rest }

/-! ## The commands -/

/-- 41_catalog_dispatch.md R150, R160 to R185: an idle engine with aligned bases accepts each of the 26 BASE
operations, whatever CTRL.EXT_EN holds: CMD, the cleared STATUS with BUSY, ERRADDR and the latch; nothing else
changes (the watch of R75 is the model's own field, log entry 6). -/
def Obligations.BaseCommandsAreAccepted : Prop :=
  ∀ i w h d, (i, w, h, d) ∈ baseOperations → ∀ s : State,
    s.status.busy = false → (d = .wide → s.refBase.toNat % 2 = 0) → s.wsrcBase.toNat % 4 = 0 →
      s.mskBase.toNat % 4 = 0 →
        exec i s = .next
          { s with
            cmd := BitVec.ofNat 32 (w + 256 * h + if d = .wide then 65536 else 0)
            status := ⟨true, false, false, false, s.status.wign, .none⟩
            errAddr := 0#32
            eng := ⟨w, h, d, s.refBase, s.refStride, s.wsrcBase, s.mskBase, 0#32, List.range (w * h), false, none⟩
            watch := .stable }

/-- 41_catalog_dispatch.md R150, R186 to R191: with CTRL.EXT_EN = 1 an idle engine with aligned bases accepts each of
the 6 EXT operations in the same way. -/
def Obligations.ExtCommandsAreAcceptedWhenEnabled : Prop :=
  ∀ i w h d, (i, w, h, d) ∈ extOperations → ∀ s : State,
    s.status.busy = false → s.ctrl.extEn = true → (d = .wide → s.refBase.toNat % 2 = 0) →
      s.wsrcBase.toNat % 4 = 0 → s.mskBase.toNat % 4 = 0 →
        exec i s = .next
          { s with
            cmd := BitVec.ofNat 32 (w + 256 * h + if d = .wide then 65536 else 0)
            status := ⟨true, false, false, false, s.status.wign, .none⟩
            errAddr := 0#32
            eng := ⟨w, h, d, s.refBase, s.refStride, s.wsrcBase, s.mskBase, 0#32, List.range (w * h), false, none⟩
            watch := .stable }

/-- 41_catalog_dispatch.md R155, R186 to R191: with CTRL.EXT_EN = 0 each EXT operation ends at once with
UNSUPPORTED_SHAPE, whatever the bases; nothing but CMD, STATUS and ERRADDR changes, and PEND is empty. -/
def Obligations.ExtCommandsAreRejectedWhenDisabled : Prop :=
  ∀ i w h d, (i, w, h, d) ∈ extOperations → ∀ s : State,
    s.status.busy = false → s.ctrl.extEn = false →
      exec i s = .next
        { s with
          cmd := BitVec.ofNat 32 (w + 256 * h + if d = .wide then 65536 else 0)
          status := ⟨false, true, true, false, s.status.wign, .unsupportedShape⟩
          errAddr := 0#32
          eng := { s.eng with pend := [] } }

/-- 60_exceptions.md R234: an operation that decodes to its shape and meets a misaligned base ends at once with
MISALIGNED and the offending register in ERRADDR: REF_BASE (wide only) before WSRC_BASE before MSK_BASE. -/
def Obligations.MisalignedBaseIsReportedInOrder : Prop :=
  ∀ i w h d, (i, w, h, d) ∈ baseOperations ++ extOperations → ∀ s : State,
    s.status.busy = false → ((i, w, h, d) ∈ extOperations → s.ctrl.extEn = true) → ∀ base : Word,
      ((d = .wide ∧ s.refBase.toNat % 2 = 1 ∧ base = s.refBase)
        ∨ ((d = .narrow ∨ s.refBase.toNat % 2 = 0) ∧ s.wsrcBase.toNat % 4 ≠ 0 ∧ base = s.wsrcBase)
        ∨ ((d = .narrow ∨ s.refBase.toNat % 2 = 0) ∧ s.wsrcBase.toNat % 4 = 0 ∧ s.mskBase.toNat % 4 ≠ 0
            ∧ base = s.mskBase)) →
        exec i s = .next
          { s with
            cmd := BitVec.ofNat 32 (w + 256 * h + if d = .wide then 65536 else 0)
            status := ⟨false, true, true, false, s.status.wign, .misaligned⟩
            errAddr := base
            eng := { s.eng with pend := [] } }

/-- 60_exceptions.md R230, R232, R233, 70_reset_and_hazards.md R273: on an idle engine each rejection row ends within
the CMD write with its error: RESERVED_CMD or UNSUPPORTED_SHAPE, ERRADDR 0, CMD the word written. -/
def Obligations.RejectedWordsEndWithTheirError : Prop :=
  (∀ row ∈ reservedRejections, ∀ (word : Word) (s : State), s.status.busy = false →
      exec (row word) s = .next
        { s with
          cmd := word
          status := ⟨false, true, true, false, s.status.wign, .reservedCmd⟩
          errAddr := 0#32
          eng := { s.eng with pend := [] } })
    ∧ ∀ (word : Word) (s : State), s.status.busy = false →
      exec (.rejectUnsupportedShape word) s = .next
        { s with
          cmd := word
          status := ⟨false, true, true, false, s.status.wign, .unsupportedShape⟩
          errAddr := 0#32
          eng := { s.eng with pend := [] } }

/-- 41_catalog_dispatch.md R150, 60_exceptions.md R234, R238: the whole of an acceptance by `WR CMD, word` on an
idle engine: the decode's error, else the first misaligned base's, else the latch. -/
def Obligations.WriteCmdAcceptsOrRejects : Prop :=
  ∀ (word : Word) (s : State), s.status.busy = false →
    exec (.wrCmd word) s = .next
      (match decodeCommand word s.ctrl.extEn with
      | .reject code =>
        { s with
          cmd := word, status := ⟨false, true, true, false, s.status.wign, code⟩, errAddr := 0#32
          eng := { s.eng with pend := [] } }
      | .op w h d =>
        if d = .wide ∧ s.refBase.toNat % 2 = 1 then
          { s with
            cmd := word, status := ⟨false, true, true, false, s.status.wign, .misaligned⟩
            errAddr := s.refBase, eng := { s.eng with pend := [] } }
        else if s.wsrcBase.toNat % 4 ≠ 0 then
          { s with
            cmd := word, status := ⟨false, true, true, false, s.status.wign, .misaligned⟩
            errAddr := s.wsrcBase, eng := { s.eng with pend := [] } }
        else if s.mskBase.toNat % 4 ≠ 0 then
          { s with
            cmd := word, status := ⟨false, true, true, false, s.status.wign, .misaligned⟩
            errAddr := s.mskBase, eng := { s.eng with pend := [] } }
        else
          { s with
            cmd := word, status := ⟨true, false, false, false, s.status.wign, .none⟩, errAddr := 0#32
            eng := ⟨w, h, d, s.refBase, s.refStride, s.wsrcBase, s.mskBase, 0#32, List.range (w * h), false, none⟩
            watch := .stable })

/-! ## Host accesses -/

/-- 42_host_access.md R201: while BUSY = 1 every write to CTRL, CMD or an operand register, in either format, is
ignored and sets WIGN, and nothing else changes; a write to CAP, RESULT, ERRADDR or a reserved offset then has no
effect and does not set WIGN. -/
def Obligations.BusyWritesAreIgnoredAndSetWign : Prop :=
  ∀ (s : State) (data : Word), s.status.busy = true →
    (∀ i ∈ [Instr.wrCtrl data, .wrCmd data, .wrRefBase data, .wrRefStride data, .wrWsrcBase data,
        .wrMskBase data, decodeCommandWord data],
      exec i s = .next { s with status := { s.status with wign := true } })
    ∧ ∀ i ∈ [Instr.wrCap data, .wrResult data, .wrErraddr data, .wrReserved28 data, .wrReserved2C data,
        .wrReserved30 data, .wrReserved34 data, .wrReserved38 data, .wrReserved3C data],
      exec i s = .next s

/-- 42_host_access.md R200: each read returns its register and changes nothing else; a STATUS read that shows a
completion ends the model's own watch (20_memory.md R76, log entry 6). -/
def Obligations.ReadsReturnTheirRegister : Prop :=
  ∀ s : State,
    exec .rdCap s = .next { s with readData := capWord platform }
      ∧ exec .rdCtrl s = .next { s with readData := ctrlWord s.ctrl }
      ∧ exec .rdStatus s = .next
          { s with
            readData := statusWord s.status
            watch := if s.status.busy = false ∧ s.status.done = true then .off else s.watch }
      ∧ exec .rdCmd s = .next { s with readData := s.cmd }
      ∧ exec .rdResult s = .next { s with readData := s.result }
      ∧ exec .rdErraddr s = .next { s with readData := s.errAddr }
      ∧ exec .rdRefBase s = .next { s with readData := s.refBase }
      ∧ exec .rdRefStride s = .next { s with readData := s.refStride }
      ∧ exec .rdWsrcBase s = .next { s with readData := s.wsrcBase }
      ∧ exec .rdMskBase s = .next { s with readData := s.mskBase }

/-- 10_state.md R27, 60_exceptions.md R231: every bit of the word STATUS reads as; the reserved bits read 0. -/
def Obligations.StatusWordBits : Prop :=
  ∀ (st : Status) (i : Nat), i < 32 →
    (statusWord st).getLsbD i =
      if i = 0 then st.busy else if i = 1 then st.done else if i = 2 then st.err else if i = 3 then st.ovf
      else if i = 4 then st.wign
      else if 8 ≤ i ∧ i ≤ 11 then
        Nat.testBit (match st.errCode with
          | .none => 0 | .unsupportedShape => 1 | .reservedCmd => 2 | .misaligned => 3 | .busError => 4) (i - 8)
      else false

/-- 10_state.md R23, R24: every bit of the words CAP and CTRL read as; the reserved bits read 0. -/
def Obligations.CapAndCtrlWordBits : Prop :=
  (∀ (p : Params) (i : Nat), i < 32 →
      (capWord p).getLsbD i = if i = 0 then p.extCap else if i = 1 then p.diagOvf else false)
    ∧ ∀ (c : Ctrl) (i : Nat), i < 32 →
      (ctrlWord c).getLsbD i = if i = 0 then c.extEn else if i = 1 then c.irqEn else false

/-- 42_host_access.md R202: `WR CTRL, data` on an idle engine: EXT_EN is bit 0 where EXT_CAP = 1 and 0 otherwise,
IRQ_EN is bit 1, nothing else changes. -/
def Obligations.WriteCtrlSetsItsFields : Prop :=
  ∀ (s : State) (data : Word), s.status.busy = false →
    exec (.wrCtrl data) s = .next { s with ctrl := ⟨data.getLsbD 0 && Config.extCap, data.getLsbD 1⟩ }

/-- 42_host_access.md R203: `WR STATUS, data` clears exactly the bits written 1, ERRCODE and ERRADDR with ERR,
whatever BUSY holds; BUSY and everything else is unchanged. -/
def Obligations.WriteStatusClearsBitsWrittenOne : Prop :=
  ∀ (s : State) (data : Word),
    exec (.wrStatus data) s = .next
      { s with
        status :=
          { busy := s.status.busy
            done := if data.getLsbD 1 then false else s.status.done
            err := if data.getLsbD 2 then false else s.status.err
            ovf := if data.getLsbD 3 then false else s.status.ovf
            wign := if data.getLsbD 4 then false else s.status.wign
            errCode := if data.getLsbD 2 then .none else s.status.errCode }
        errAddr := if data.getLsbD 2 then 0#32 else s.errAddr }

/-- 42_host_access.md R205 to R208: on an idle engine a write to an operand register stores the data as written and
changes nothing else. -/
def Obligations.OperandWritesStoreTheData : Prop :=
  ∀ (s : State) (data : Word), s.status.busy = false →
    exec (.wrRefBase data) s = .next { s with refBase := data }
      ∧ exec (.wrRefStride data) s = .next { s with refStride := data }
      ∧ exec (.wrWsrcBase data) s = .next { s with wsrcBase := data }
      ∧ exec (.wrMskBase data) s = .next { s with mskBase := data }

/-- 42_host_access.md R209: writes to CAP (key 0x40), RESULT (0x50) and ERRADDR (0x54) have no effect. -/
def Obligations.ReadOnlyWritesHaveNoEffect : Prop :=
  ∀ (s : State) (data : Word),
    decode (.access true 0x00 4 data) = .ok (.wrCap data) ∧ exec (.wrCap data) s = .next s
      ∧ decode (.access true 0x10 4 data) = .ok (.wrResult data) ∧ exec (.wrResult data) s = .next s
      ∧ decode (.access true 0x14 4 data) = .ok (.wrErraddr data) ∧ exec (.wrErraddr data) s = .next s

/-- 42_host_access.md R211: at each reserved offset a read (key 0x28 to 0x3C) returns 0 and a write (key 0x68 to 0x7C)
is ignored, whatever BUSY holds, and neither sets WIGN. -/
def Obligations.ReservedOffsetsReadZeroIgnoreWrites : Prop :=
  ∀ (s : State) (data : Word), ∀ row ∈
      [(0x28, Instr.rdReserved28, Instr.wrReserved28 data), (0x2C, .rdReserved2C, .wrReserved2C data),
        (0x30, .rdReserved30, .wrReserved30 data), (0x34, .rdReserved34, .wrReserved34 data),
        (0x38, .rdReserved38, .wrReserved38 data), (0x3C, .rdReserved3C, .wrReserved3C data)],
    decode (.access false row.1 4 data) = .ok row.2.1
      ∧ exec row.2.1 s = .next { s with readData := 0#32 }
      ∧ decode (.access true row.1 4 data) = .ok row.2.2
      ∧ exec row.2.2 s = .next s

/-- 41_catalog_dispatch.md R150, 42_host_access.md R200 to R211: exec answers a next state for every instruction in
every state. -/
def Obligations.EveryInstructionRuns : Prop :=
  ∀ (i : Instr) (s : State), ∃ t, exec i s = .next t

/-- 20_memory.md R61, 10_state.md R35: no host access or command word changes a byte of memory or RESULT, or takes
a free value. -/
def Obligations.InstructionsKeepMemoryAndResult : Prop :=
  ∀ (i : Instr) (s t : State), exec i s = .next t →
    (∀ a, t.mem.read a = s.mem.read a) ∧ t.result = s.result ∧ t.inputs = s.inputs ∧ t.draws = s.draws

/-- 10_state.md R28, R41, 42_host_access.md R201: no instruction clears BUSY, and while it is 1 none changes the
latched command, CTRL, CMD or an operand register. -/
def Obligations.CommandInFlightCannotBeDisturbed : Prop :=
  ∀ (i : Instr) (s t : State), s.status.busy = true → exec i s = .next t →
    t.status.busy = true ∧ t.eng = s.eng ∧ t.ctrl = s.ctrl ∧ t.cmd = s.cmd
      ∧ t.refBase = s.refBase ∧ t.refStride = s.refStride ∧ t.wsrcBase = s.wsrcBase ∧ t.mskBase = s.mskBase

/-- 10_state.md R28, 42_host_access.md R204: only the host's write of a word that decodes to an operation makes an
idle engine busy, and CMD then holds that word and the engine its shape and depth. -/
def Obligations.OnlyAnOperationWordStartsTheEngine : Prop :=
  ∀ (i : Instr) (s t : State), s.status.busy = false → exec i s = .next t → t.status.busy = true →
    ∃ word w h d, (encode i = .command word ∨ i = .wrCmd word)
      ∧ decodeCommand word s.ctrl.extEn = .op w h d
      ∧ t.cmd = word ∧ t.eng.w = w ∧ t.eng.h = h ∧ t.eng.depth = d

/-! ## Element reads and the kernel -/

/-- 20_memory.md R62: `MemRead` for 1, 2 and 4 bytes is little-endian, with addresses modulo 2^32. -/
def Obligations.ReadsAreLittleEndian : Prop :=
  ∀ (byte : Word → Byte) (a : Word),
    memRead byte a 1 = (byte a).toNat
      ∧ memRead byte a 2 = (byte a).toNat + 256 * (byte (a + 1#32)).toNat
      ∧ memRead byte a 4 = (byte a).toNat + 256 * (byte (a + 1#32)).toNat
          + 65536 * (byte (a + 2#32)).toNat + 16777216 * (byte (a + 3#32)).toNat

/-- 20_memory.md R63, R64: the address of every element of a pixel, modulo 2^32. -/
def Obligations.ElementAddresses : Prop :=
  ∀ (e : Engine) (r c n : Nat), c < e.w → n = r * e.w + c →
    (elemAddr e .sample n).toNat =
        (e.rb.toNat + (if e.depth = .wide then 2 else 1) * (r * e.rs.toNat + c)) % 4294967296
      ∧ (elemAddr e .wsrc n).toNat = (e.wb.toNat + 4 * n) % 4294967296
      ∧ (elemAddr e .msk n).toNat = (e.mb.toNat + 4 * n) % 4294967296

/-- 20_memory.md R66: given the base conditions, every element address is a multiple of the element's size. -/
def Obligations.AlignedBasesGiveAlignedElements : Prop :=
  ∀ e : Engine, e.aligned → ∀ (elem : Elem) (n : Nat), (elemAddr e elem n).toNat % elemSize e.depth elem = 0

/-- 40_kernel.md R121, R122, R123: the sample is zero-extended at its size, the weights are sign-extended. -/
def Obligations.FetchExtendsSamplesAndWeights : Prop :=
  ∀ (byte : Elem → Word → Byte) (e : Engine) (n : Nat),
    (e.depth = .narrow → (fetchPixel byte e n).a = memRead (byte .sample) (elemAddr e .sample n) 1
        ∧ (fetchPixel byte e n).a ≤ 255)
      ∧ (e.depth = .wide → (fetchPixel byte e n).a = memRead (byte .sample) (elemAddr e .sample n) 2
        ∧ (fetchPixel byte e n).a ≤ 65535)
      ∧ (fetchPixel byte e n).m =
          (let v := memRead (byte .msk) (elemAddr e .msk n) 4
           if v < 2147483648 then (v : Int) else (v : Int) - 4294967296)
      ∧ (fetchPixel byte e n).w =
          (let v := memRead (byte .wsrc) (elemAddr e .wsrc n) 4
           if v < 2147483648 then (v : Int) else (v : Int) - 4294967296)

/-- 40_kernel.md R127: the term of a pixel is `(ad + 2048) >> 12` with `ad = |w - a * m|`, that is `ad / 4096` rounded to
the nearest integer with exact halves up, and inside the domain it is at most 524287. -/
def Obligations.TermIsRoundedHalfUp : Prop :=
  ∀ x : PixelOperands,
    (4096 * ((pixelTerm x).1 : Int) ≤ |x.w - x.a * x.m| + 2048)
      ∧ (|x.w - x.a * x.m| + 2048 < 4096 * ((pixelTerm x).1 : Int) + 4096)
      ∧ ((pixelTerm x).2 = true → (pixelTerm x).1 ≤ 524287)

/-- 40_kernel.md R129: the operand domain. -/
def Obligations.DomainIsThirtyTwoBitLane : Prop :=
  ∀ x : PixelOperands, (pixelTerm x).2 = true ↔
    (-(2 : Int) ^ 31 ≤ x.a * x.m ∧ x.a * x.m ≤ (2 : Int) ^ 31 - 1)
      ∧ (-(2 : Int) ^ 31 ≤ x.w - x.a * x.m ∧ x.w - x.a * x.m ≤ (2 : Int) ^ 31 - 1)
      ∧ |x.w - x.a * x.m| + 2048 ≤ (2 : Int) ^ 31 - 1

/-- 40_kernel.md R131: samples of at most 16 bits and weights of magnitude below 2^15 are always in the domain. -/
def Obligations.FifteenBitWeightsAreInDomain : Prop :=
  ∀ x : PixelOperands, x.a ≤ 65535 → |x.m| < (2 : Int) ^ 15 → |x.w| < (2 : Int) ^ 15 → (pixelTerm x).2 = true

/-- 40_kernel.md R128: the kernel's sum is the exact sum of the terms modulo 2^32, from 0; inside the domain each term
is at most 524287, and a block of at most 8192 pixels never wraps. -/
def Obligations.KernelSumWrapsModulo32Bits : Prop :=
  ∀ (byte : Nat → Elem → Word → Byte) (e : Engine),
    (kernel byte e).1.toNat =
        ((List.range (e.w * e.h)).map fun n => (pixelTerm (fetchPixel (byte n) e n)).1).sum % 4294967296
      ∧ ((kernel byte e).2 = false →
          (∀ n, n < e.w * e.h → (pixelTerm (fetchPixel (byte n) e n)).1 ≤ 524287)
            ∧ (e.w * e.h ≤ 8192 → (kernel byte e).1.toNat =
                ((List.range (e.w * e.h)).map fun n => (pixelTerm (fetchPixel (byte n) e n)).1).sum))

/-- 40_kernel.md R132: accumulating any pixels in any order gives the same sum and the same domain flag. -/
def Obligations.AccumulationIgnoresOrder : Prop :=
  ∀ (byte : Nat → Elem → Word → Byte) (e : Engine) (acc : Word) (pixels order : List Nat),
    pixels.Perm order →
      accumulate byte e acc pixels = accumulate byte e acc order
        ∧ anyOutside byte e pixels = anyOutside byte e order

/-- 40_kernel.md R133: a narrow and a wide command that see the same sample values and the same weights give the same
value. -/
def Obligations.NarrowAndWideAgreeOnEqualSamples : Prop :=
  ∀ (byte byte' : Nat → Elem → Word → Byte) (e e' : Engine),
    e.depth = .narrow → e'.depth = .wide → e.w = e'.w → e.h = e'.h →
      (∀ n, n < e.w * e.h →
        memRead (byte n .sample) (elemAddr e .sample n) 1 = memRead (byte' n .sample) (elemAddr e' .sample n) 2
          ∧ memRead (byte n .msk) (elemAddr e .msk n) 4 = memRead (byte' n .msk) (elemAddr e' .msk n) 4
          ∧ memRead (byte n .wsrc) (elemAddr e .wsrc n) 4 = memRead (byte' n .wsrc) (elemAddr e' .wsrc n) 4) →
        kernel byte e = kernel byte' e'

/-- 40_kernel.md R136: if every weighted source equals its weighted prediction, each product in s32, the value is 0
and every pixel is in the domain. -/
def Obligations.EqualPredictionGivesZero : Prop :=
  ∀ (byte : Nat → Elem → Word → Byte) (e : Engine),
    (∀ n, n < e.w * e.h →
      (fetchPixel (byte n) e n).w = (fetchPixel (byte n) e n).a * (fetchPixel (byte n) e n).m
        ∧ -(2 : Int) ^ 31 ≤ (fetchPixel (byte n) e n).a * (fetchPixel (byte n) e n).m
        ∧ (fetchPixel (byte n) e n).a * (fetchPixel (byte n) e n).m ≤ (2 : Int) ^ 31 - 1) →
      kernel byte e = (0#32, false)

/-- 20_memory.md R65: the kernel depends on no byte outside the footprint's elements. -/
def Obligations.KernelReadsOnlyTheFootprint : Prop :=
  ∀ (byte byte' : Nat → Elem → Word → Byte) (e : Engine),
    (∀ n, n < e.w * e.h → ∀ elem addr, elemHolds e elem n addr = true → byte n elem addr = byte' n elem addr) →
      kernel byte e = kernel byte' e

/-! ## The engine -/

/-- 41_catalog_dispatch.md R151: an enabled engine step takes a non-empty subset B of PEND; if a read of B fails,
BERR is the address of one such read and nothing is accumulated; else B is accumulated and leaves PEND. Nothing
else changes but the draw counter. -/
def Obligations.EngineStepTakesSomePendingPixels : Prop :=
  ∀ (p : Params) (s : State), s.status.busy = true → s.eng.berr = none → s.eng.pend ≠ [] →
    ∃ batch : List Nat, batch ≠ [] ∧ (∀ n ∈ batch, n ∈ s.eng.pend) ∧
      (((∃ n ∈ batch, ∃ elem, p.memOk (elemAddr s.eng elem n) (elemSize s.eng.depth elem) = false
            ∧ engineTurn p s =
              { s with eng := { s.eng with berr := some (elemAddr s.eng elem n) }, draws := s.draws + 1 }))
        ∨ ((∀ n ∈ batch, ∀ elem, p.memOk (elemAddr s.eng elem n) (elemSize s.eng.depth elem) = true)
            ∧ engineTurn p s =
              { s with
                eng :=
                  { s.eng with
                    acc := accumulate (busByte p s.mem s.draws) s.eng s.eng.acc batch
                    ood := s.eng.ood || anyOutside (busByte p s.mem s.draws) s.eng batch
                    pend := s.eng.pend.filter fun n => !batch.contains n }
                draws := s.draws + 1 }))

/-- 41_catalog_dispatch.md R152, 20_memory.md R75: completion without error: RESULT is ACC, or a free value when a
pixel was out of domain or the footprint was written in flight; OVF, BUSY and DONE are written, nothing else. -/
def Obligations.CompletionWritesResult : Prop :=
  ∀ (p : Params) (s : State), s.status.busy = true → s.eng.berr = none → s.eng.pend = [] →
    engineTurn p s =
      { s with
        result := if s.eng.ood = true ∨ s.watch = .written then p.drawWord s.draws else s.eng.acc
        status := { s.status with ovf := p.diagOvf && s.eng.ood, busy := false, done := true }
        draws := s.draws + 1 }

/-- 41_catalog_dispatch.md R153, 60_exceptions.md R230, R235: completion with a bus error: BUSY 0, DONE, ERR and
ERRCODE 4, ERRADDR the failing address, PEND empty; RESULT and OVF are not written, and nothing else changes but
the model's own watch. -/
def Obligations.BusErrorCompletionKeepsResult : Prop :=
  ∀ (p : Params) (s : State) (addr : Word), s.status.busy = true → s.eng.berr = some addr →
    engineTurn p s =
      { s with
        status := { s.status with busy := false, done := true, err := true, errCode := .busError }
        errAddr := addr
        eng := { s.eng with pend := [] }
        watch := .off }

/-- 20_memory.md R61, 10_state.md R35, R41: an engine turn changes no byte of memory, no register the host writes,
no latched operand and not WIGN; it changes RESULT only by completing; an idle engine's turn changes nothing. -/
def Obligations.EngineTurnFrame : Prop :=
  ∀ (p : Params) (s : State),
    (∀ a, (engineTurn p s).mem.read a = s.mem.read a)
      ∧ (engineTurn p s).ctrl = s.ctrl ∧ (engineTurn p s).cmd = s.cmd
      ∧ (engineTurn p s).refBase = s.refBase ∧ (engineTurn p s).refStride = s.refStride
      ∧ (engineTurn p s).wsrcBase = s.wsrcBase ∧ (engineTurn p s).mskBase = s.mskBase
      ∧ (engineTurn p s).inputs = s.inputs ∧ (engineTurn p s).readData = s.readData
      ∧ (engineTurn p s).status.wign = s.status.wign
      ∧ (engineTurn p s).eng.w = s.eng.w ∧ (engineTurn p s).eng.h = s.eng.h
      ∧ (engineTurn p s).eng.depth = s.eng.depth ∧ (engineTurn p s).eng.rb = s.eng.rb
      ∧ (engineTurn p s).eng.rs = s.eng.rs ∧ (engineTurn p s).eng.wb = s.eng.wb
      ∧ (engineTurn p s).eng.mb = s.eng.mb
      ∧ ((engineTurn p s).result ≠ s.result →
          s.status.busy = true ∧ (engineTurn p s).status.busy = false ∧ (engineTurn p s).status.done = true)
      ∧ (s.status.busy = false → engineTurn p s = s)

/-- 41_catalog_dispatch.md R151 to R153: whatever the engine's choices, a command in flight completes within one turn
more than it has pixels pending. A count of the model's own turns, not a bound the host may rely on (R272 gives
none): every turn of the model takes an enabled step, and when a turn comes is open (log entries 2 and 20). -/
def Obligations.CommandAlwaysCompletes : Prop :=
  ∀ (p : Params) (s : State) (k : Nat), s.eng.pend.length + 1 ≤ k → (runEngine p k s).status.busy = false

/-- 40_kernel.md R120, R130, 41_catalog_dispatch.md R151, R152, 20_memory.md R77: a just accepted command whose reads
succeed, whatever pixels each step takes up, completes and raises no error (ERR and ERRCODE stay as they were)
with the kernel of the memory it was accepted on in RESULT (any value when a pixel is out of domain), and
changes no other register. (The turns are the model's, log entries 2 and 20.) -/
def Obligations.EngineComputesTheKernel : Prop :=
  ∀ (p : Params) (s : State), JustAccepted s → s.watch = .stable →
    FootprintReadable p s.eng → FootprintOutsideWindow p s.eng →
      ∀ k, s.eng.w * s.eng.h + 1 ≤ k →
        (runEngine p k s).status =
            { s.status with busy := false, done := true, ovf := p.diagOvf && (kernelOf p s).2 }
          ∧ ((kernelOf p s).2 = false → (runEngine p k s).result = (kernelOf p s).1)
          ∧ ((kernelOf p s).2 = true → ∃ n, (runEngine p k s).result = p.drawWord n)
          ∧ (runEngine p k s).errAddr = s.errAddr ∧ (runEngine p k s).mem = s.mem
          ∧ (runEngine p k s).cmd = s.cmd ∧ (runEngine p k s).ctrl = s.ctrl
          ∧ (runEngine p k s).refBase = s.refBase ∧ (runEngine p k s).refStride = s.refStride
          ∧ (runEngine p k s).wsrcBase = s.wsrcBase ∧ (runEngine p k s).mskBase = s.mskBase

/-- 41_catalog_dispatch.md R160 to R191, 40_kernel.md R120: each of the 32 operations, accepted by an idle engine with
aligned bases and run to its end over a readable footprint, leaves DONE = 1, ERR = 0 and, where every pixel is in
the domain, the kernel of its own shape and depth and of the operand registers in RESULT. -/
def Obligations.OperationRunsToItsResult : Prop :=
  ∀ (p : Params) i w h d, (i, w, h, d) ∈ baseOperations ++ extOperations → ∀ s : State,
    s.status.busy = false → ((i, w, h, d) ∈ extOperations → s.ctrl.extEn = true) →
      (d = .wide → s.refBase.toNat % 2 = 0) → s.wsrcBase.toNat % 4 = 0 → s.mskBase.toNat % 4 = 0 →
        ∀ e : Engine, e = ⟨w, h, d, s.refBase, s.refStride, s.wsrcBase, s.mskBase, 0#32,
            List.range (w * h), false, none⟩ →
          FootprintReadable p e → FootprintOutsideWindow p e →
            ∃ t, exec i s = .next t ∧ ∀ k, w * h + 1 ≤ k →
              (runEngine p k t).status =
                  ⟨false, true, false, p.diagOvf && (kernel (snapshot p s.mem) e).2, s.status.wign, .none⟩
                ∧ (runEngine p k t).errAddr = 0#32
                ∧ ((kernel (snapshot p s.mem) e).2 = false →
                    (runEngine p k t).result = (kernel (snapshot p s.mem) e).1)

/-- 41_catalog_dispatch.md R153, 60_exceptions.md R235, R238: a just accepted command with an element whose read fails
always ends with BUS_ERROR, the address of such an element in ERRADDR, RESULT and OVF as before. -/
def Obligations.UnreadableFootprintEndsInBusError : Prop :=
  ∀ (p : Params) (s : State), JustAccepted s → ¬ FootprintReadable p s.eng →
    ∀ k, s.eng.w * s.eng.h + 1 ≤ k →
      (runEngine p k s).status = { s.status with busy := false, done := true, err := true, errCode := .busError }
        ∧ (runEngine p k s).result = s.result
        ∧ ∃ n elem, n < s.eng.w * s.eng.h
            ∧ p.memOk (elemAddr s.eng elem n) (elemSize s.eng.depth elem) = false
            ∧ (runEngine p k s).errAddr = elemAddr s.eng elem n

/-- 40_kernel.md R132, 41_catalog_dispatch.md R154: two engines that differ only in the pixels each step takes up give
the same RESULT and STATUS for the same command, when every pixel is in the domain. -/
def Obligations.BatchingIsNotObservable : Prop :=
  ∀ (p : Params) (batch : Nat → Nat → Bool) (s : State), JustAccepted s → s.watch = .stable →
    FootprintReadable p s.eng → FootprintOutsideWindow p s.eng → (kernelOf p s).2 = false →
      ∀ k, s.eng.w * s.eng.h + 1 ≤ k →
        (runEngine { p with batch := batch } k s).result = (runEngine p k s).result
          ∧ (runEngine { p with batch := batch } k s).status = (runEngine p k s).status

/-- 20_memory.md R75, 41_catalog_dispatch.md R152: when a footprint byte is written while a command is in flight and
its reads succeed, the command still completes without error, and RESULT is a free value. -/
def Obligations.FootprintWriteMakesResultFree : Prop :=
  ∀ (p : Params) (s : State) (addr : Word) (byte : Byte), s.status.busy = true → s.watch = .stable →
    s.eng.berr = none → (∀ n ∈ s.eng.pend, n < s.eng.w * s.eng.h) → inFootprint s.eng addr = true →
      FootprintReadable p s.eng → ∀ k, s.eng.pend.length + 1 ≤ k →
        (runEngine p k (storeByte p addr byte s)).status.busy = false
          ∧ (runEngine p k (storeByte p addr byte s)).status.done = true
          ∧ (runEngine p k (storeByte p addr byte s)).status.err = s.status.err
          ∧ ∃ n, (runEngine p k (storeByte p addr byte s)).result = p.drawWord n

/-- 20_memory.md R75, as the model reads its interval (log entry 6, the model's choice): a footprint byte written
after a successful completion and before the host has observed it makes RESULT a free value too. -/
def Obligations.UnobservedResultIsFreeAfterFootprintWrite : Prop :=
  ∀ (p : Params) (s : State) (addr : Word) (byte : Byte), s.status.busy = false → s.watch = .stable →
    inFootprint s.eng addr = true →
      (storeByte p addr byte s).result = p.drawWord s.draws ∧ (storeByte p addr byte s).status = s.status

/-- 20_memory.md R70, R72: outside the engine's own register window the bus returns the byte last stored, the same for
every read; inside it, a free value of that read. -/
def Obligations.BusReadsMemoryOrTheWindow : Prop :=
  ∀ (p : Params) (m : Memory) (turn pixel : Nat) (elem : Elem) (addr : Word) (byte : Byte),
    ((addr - p.blockBase).toNat < 64 → busByte p m turn pixel elem addr = p.windowByte ⟨turn, pixel, elem, addr⟩)
      ∧ (64 ≤ (addr - p.blockBase).toNat → busByte p (m.write addr.toNat byte) turn pixel elem addr = byte)

/-- 10_state.md R46, 60_exceptions.md R242, 70_reset_and_hazards.md R271, 41_catalog_dispatch.md R150, 42_host_access.md
R203: IRQ is IRQ_EN AND DONE, and 0 at reset; every completion makes it IRQ_EN, by an engine turn or by a
rejection at acceptance; clearing DONE lowers it, and so does accepting an operation. -/
def Obligations.IrqFollowsDoneAndEnable : Prop :=
  (∀ s : State, s.irq = (s.ctrl.irqEn && s.status.done))
    ∧ State.reset.irq = false
    ∧ (∀ (p : Params) (s : State), s.status.busy = true → (engineTurn p s).status.busy = false →
        (engineTurn p s).irq = s.ctrl.irqEn)
    ∧ (∀ (i : Instr) (s t : State), (∃ word, encode i = .command word ∨ i = .wrCmd word) →
        s.status.busy = false → exec i s = .next t → t.status.busy = false →
          t.status.done = true ∧ t.irq = s.ctrl.irqEn)
    ∧ (∀ (s t : State) (data : Word), data.getLsbD 1 = true → exec (.wrStatus data) s = .next t → t.irq = false)
    ∧ ∀ (i : Instr) (s t : State), s.status.busy = false → exec i s = .next t → t.status.busy = true →
        t.irq = false

/-! ## The invariant -/

/-- The invariant holds after reset (70_reset_and_hazards.md R260), for every value of the parameters. -/
def Obligations.ResetMeetsTheInvariant : Prop :=
  ∀ p : Params, Inv p State.reset

/-- Every step keeps the invariant: the canonical memory, the hardwired bits (10_state.md R25, R31), ERRCODE and
ERRADDR with ERR (R33, R36), the STATUS of a command in flight (42_host_access.md R203), its shape, alignment and
pending pixels, and the idle engine with nothing pending (60_exceptions.md R230). -/
def Obligations.StepKeepsTheInvariant : Prop :=
  ∀ s t : State, Inv platform s → step s = .next t → Inv platform t
end

