-- ==== Sys2Proof/Laws/State.lean ====
section
/-! SUPPORT. One lemma per field of State for each named update, true by definition, so that no proof unfolds a
record update. -/

namespace Sys2Proof.Machine

@[simp] theorem ignoreWrite_ctrl (s : State) : (ignoreWrite s).ctrl = s.ctrl := rfl
@[simp] theorem ignoreWrite_status (s : State) : (ignoreWrite s).status = { s.status with wign := true } := rfl
@[simp] theorem ignoreWrite_cmd (s : State) : (ignoreWrite s).cmd = s.cmd := rfl
@[simp] theorem ignoreWrite_result (s : State) : (ignoreWrite s).result = s.result := rfl
@[simp] theorem ignoreWrite_errAddr (s : State) : (ignoreWrite s).errAddr = s.errAddr := rfl
@[simp] theorem ignoreWrite_refBase (s : State) : (ignoreWrite s).refBase = s.refBase := rfl
@[simp] theorem ignoreWrite_refStride (s : State) : (ignoreWrite s).refStride = s.refStride := rfl
@[simp] theorem ignoreWrite_wsrcBase (s : State) : (ignoreWrite s).wsrcBase = s.wsrcBase := rfl
@[simp] theorem ignoreWrite_mskBase (s : State) : (ignoreWrite s).mskBase = s.mskBase := rfl
@[simp] theorem ignoreWrite_eng (s : State) : (ignoreWrite s).eng = s.eng := rfl
@[simp] theorem ignoreWrite_mem (s : State) : (ignoreWrite s).mem = s.mem := rfl
@[simp] theorem ignoreWrite_inputs (s : State) : (ignoreWrite s).inputs = s.inputs := rfl
@[simp] theorem ignoreWrite_readData (s : State) : (ignoreWrite s).readData = s.readData := rfl
@[simp] theorem ignoreWrite_watch (s : State) : (ignoreWrite s).watch = s.watch := rfl
@[simp] theorem ignoreWrite_draws (s : State) : (ignoreWrite s).draws = s.draws := rfl

@[simp] theorem loadByte_eq (p : Params) (addr : Word) (s : State) :
    loadByte p addr s = returnData ((memByte p s.mem addr).setWidth 32) s := rfl

@[simp] theorem returnData_ctrl (data : Word) (s : State) : (returnData data s).ctrl = s.ctrl := rfl
@[simp] theorem returnData_status (data : Word) (s : State) : (returnData data s).status = s.status := rfl
@[simp] theorem returnData_cmd (data : Word) (s : State) : (returnData data s).cmd = s.cmd := rfl
@[simp] theorem returnData_result (data : Word) (s : State) : (returnData data s).result = s.result := rfl
@[simp] theorem returnData_errAddr (data : Word) (s : State) : (returnData data s).errAddr = s.errAddr := rfl
@[simp] theorem returnData_refBase (data : Word) (s : State) : (returnData data s).refBase = s.refBase := rfl
@[simp] theorem returnData_refStride (data : Word) (s : State) : (returnData data s).refStride = s.refStride := rfl
@[simp] theorem returnData_wsrcBase (data : Word) (s : State) : (returnData data s).wsrcBase = s.wsrcBase := rfl
@[simp] theorem returnData_mskBase (data : Word) (s : State) : (returnData data s).mskBase = s.mskBase := rfl
@[simp] theorem returnData_eng (data : Word) (s : State) : (returnData data s).eng = s.eng := rfl
@[simp] theorem returnData_mem (data : Word) (s : State) : (returnData data s).mem = s.mem := rfl
@[simp] theorem returnData_inputs (data : Word) (s : State) : (returnData data s).inputs = s.inputs := rfl
@[simp] theorem returnData_readData (data : Word) (s : State) : (returnData data s).readData = data := rfl
@[simp] theorem returnData_watch (data : Word) (s : State) : (returnData data s).watch = s.watch := rfl
@[simp] theorem returnData_draws (data : Word) (s : State) : (returnData data s).draws = s.draws := rfl

@[simp] theorem beginAcceptance_ctrl (word : Word) (s : State) : (beginAcceptance word s).ctrl = s.ctrl := rfl
@[simp] theorem beginAcceptance_status (word : Word) (s : State) : (beginAcceptance word s).status = statusAtAcceptance s.status := rfl
@[simp] theorem beginAcceptance_cmd (word : Word) (s : State) : (beginAcceptance word s).cmd = word := rfl
@[simp] theorem beginAcceptance_result (word : Word) (s : State) : (beginAcceptance word s).result = s.result := rfl
@[simp] theorem beginAcceptance_errAddr (word : Word) (s : State) : (beginAcceptance word s).errAddr = 0#32 := rfl
@[simp] theorem beginAcceptance_refBase (word : Word) (s : State) : (beginAcceptance word s).refBase = s.refBase := rfl
@[simp] theorem beginAcceptance_refStride (word : Word) (s : State) : (beginAcceptance word s).refStride = s.refStride := rfl
@[simp] theorem beginAcceptance_wsrcBase (word : Word) (s : State) : (beginAcceptance word s).wsrcBase = s.wsrcBase := rfl
@[simp] theorem beginAcceptance_mskBase (word : Word) (s : State) : (beginAcceptance word s).mskBase = s.mskBase := rfl
@[simp] theorem beginAcceptance_eng (word : Word) (s : State) : (beginAcceptance word s).eng = s.eng := rfl
@[simp] theorem beginAcceptance_mem (word : Word) (s : State) : (beginAcceptance word s).mem = s.mem := rfl
@[simp] theorem beginAcceptance_inputs (word : Word) (s : State) : (beginAcceptance word s).inputs = s.inputs := rfl
@[simp] theorem beginAcceptance_readData (word : Word) (s : State) : (beginAcceptance word s).readData = s.readData := rfl
@[simp] theorem beginAcceptance_watch (word : Word) (s : State) : (beginAcceptance word s).watch = s.watch := rfl
@[simp] theorem beginAcceptance_draws (word : Word) (s : State) : (beginAcceptance word s).draws = s.draws := rfl

@[simp] theorem raiseError_ctrl (code : ErrCode) (addr : Word) (s : State) : (raiseError code addr s).ctrl = s.ctrl := rfl
@[simp] theorem raiseError_status (code : ErrCode) (addr : Word) (s : State) : (raiseError code addr s).status = statusOnError code s.status := rfl
@[simp] theorem raiseError_cmd (code : ErrCode) (addr : Word) (s : State) : (raiseError code addr s).cmd = s.cmd := rfl
@[simp] theorem raiseError_result (code : ErrCode) (addr : Word) (s : State) : (raiseError code addr s).result = s.result := rfl
@[simp] theorem raiseError_errAddr (code : ErrCode) (addr : Word) (s : State) : (raiseError code addr s).errAddr = addr := rfl
@[simp] theorem raiseError_refBase (code : ErrCode) (addr : Word) (s : State) : (raiseError code addr s).refBase = s.refBase := rfl
@[simp] theorem raiseError_refStride (code : ErrCode) (addr : Word) (s : State) : (raiseError code addr s).refStride = s.refStride := rfl
@[simp] theorem raiseError_wsrcBase (code : ErrCode) (addr : Word) (s : State) : (raiseError code addr s).wsrcBase = s.wsrcBase := rfl
@[simp] theorem raiseError_mskBase (code : ErrCode) (addr : Word) (s : State) : (raiseError code addr s).mskBase = s.mskBase := rfl
@[simp] theorem raiseError_eng (code : ErrCode) (addr : Word) (s : State) : (raiseError code addr s).eng = { s.eng with pend := [] } := rfl
@[simp] theorem raiseError_mem (code : ErrCode) (addr : Word) (s : State) : (raiseError code addr s).mem = s.mem := rfl
@[simp] theorem raiseError_inputs (code : ErrCode) (addr : Word) (s : State) : (raiseError code addr s).inputs = s.inputs := rfl
@[simp] theorem raiseError_readData (code : ErrCode) (addr : Word) (s : State) : (raiseError code addr s).readData = s.readData := rfl
@[simp] theorem raiseError_watch (code : ErrCode) (addr : Word) (s : State) : (raiseError code addr s).watch = s.watch := rfl
@[simp] theorem raiseError_draws (code : ErrCode) (addr : Word) (s : State) : (raiseError code addr s).draws = s.draws := rfl

@[simp] theorem latchCommand_ctrl (w h : Nat) (d : Depth) (s : State) : (latchCommand w h d s).ctrl = s.ctrl := rfl
@[simp] theorem latchCommand_status (w h : Nat) (d : Depth) (s : State) : (latchCommand w h d s).status = { s.status with busy := true } := rfl
@[simp] theorem latchCommand_cmd (w h : Nat) (d : Depth) (s : State) : (latchCommand w h d s).cmd = s.cmd := rfl
@[simp] theorem latchCommand_result (w h : Nat) (d : Depth) (s : State) : (latchCommand w h d s).result = s.result := rfl
@[simp] theorem latchCommand_errAddr (w h : Nat) (d : Depth) (s : State) : (latchCommand w h d s).errAddr = s.errAddr := rfl
@[simp] theorem latchCommand_refBase (w h : Nat) (d : Depth) (s : State) : (latchCommand w h d s).refBase = s.refBase := rfl
@[simp] theorem latchCommand_refStride (w h : Nat) (d : Depth) (s : State) : (latchCommand w h d s).refStride = s.refStride := rfl
@[simp] theorem latchCommand_wsrcBase (w h : Nat) (d : Depth) (s : State) : (latchCommand w h d s).wsrcBase = s.wsrcBase := rfl
@[simp] theorem latchCommand_mskBase (w h : Nat) (d : Depth) (s : State) : (latchCommand w h d s).mskBase = s.mskBase := rfl
@[simp] theorem latchCommand_eng (w h : Nat) (d : Depth) (s : State) : (latchCommand w h d s).eng = ⟨w, h, d, s.refBase, s.refStride, s.wsrcBase, s.mskBase, 0#32, List.range (w * h), false, none⟩ := rfl
@[simp] theorem latchCommand_mem (w h : Nat) (d : Depth) (s : State) : (latchCommand w h d s).mem = s.mem := rfl
@[simp] theorem latchCommand_inputs (w h : Nat) (d : Depth) (s : State) : (latchCommand w h d s).inputs = s.inputs := rfl
@[simp] theorem latchCommand_readData (w h : Nat) (d : Depth) (s : State) : (latchCommand w h d s).readData = s.readData := rfl
@[simp] theorem latchCommand_watch (w h : Nat) (d : Depth) (s : State) : (latchCommand w h d s).watch = .stable := rfl
@[simp] theorem latchCommand_draws (w h : Nat) (d : Depth) (s : State) : (latchCommand w h d s).draws = s.draws := rfl

@[simp] theorem completeOk_ctrl (p : Params) (s : State) : (completeOk p s).ctrl = s.ctrl := rfl
@[simp] theorem completeOk_status (p : Params) (s : State) : (completeOk p s).status = statusOnCompletion p s.eng.ood s.status := rfl
@[simp] theorem completeOk_cmd (p : Params) (s : State) : (completeOk p s).cmd = s.cmd := rfl
@[simp] theorem completeOk_result (p : Params) (s : State) : (completeOk p s).result = completionResult p s := rfl
@[simp] theorem completeOk_errAddr (p : Params) (s : State) : (completeOk p s).errAddr = s.errAddr := rfl
@[simp] theorem completeOk_refBase (p : Params) (s : State) : (completeOk p s).refBase = s.refBase := rfl
@[simp] theorem completeOk_refStride (p : Params) (s : State) : (completeOk p s).refStride = s.refStride := rfl
@[simp] theorem completeOk_wsrcBase (p : Params) (s : State) : (completeOk p s).wsrcBase = s.wsrcBase := rfl
@[simp] theorem completeOk_mskBase (p : Params) (s : State) : (completeOk p s).mskBase = s.mskBase := rfl
@[simp] theorem completeOk_eng (p : Params) (s : State) : (completeOk p s).eng = s.eng := rfl
@[simp] theorem completeOk_mem (p : Params) (s : State) : (completeOk p s).mem = s.mem := rfl
@[simp] theorem completeOk_inputs (p : Params) (s : State) : (completeOk p s).inputs = s.inputs := rfl
@[simp] theorem completeOk_readData (p : Params) (s : State) : (completeOk p s).readData = s.readData := rfl
@[simp] theorem completeOk_watch (p : Params) (s : State) : (completeOk p s).watch = s.watch := rfl
@[simp] theorem completeOk_draws (p : Params) (s : State) : (completeOk p s).draws = s.draws + 1 := rfl

@[simp] theorem completeBusError_ctrl (addr : Word) (s : State) : (completeBusError addr s).ctrl = s.ctrl := rfl
@[simp] theorem completeBusError_status (addr : Word) (s : State) : (completeBusError addr s).status = statusOnError .busError s.status := rfl
@[simp] theorem completeBusError_cmd (addr : Word) (s : State) : (completeBusError addr s).cmd = s.cmd := rfl
@[simp] theorem completeBusError_result (addr : Word) (s : State) : (completeBusError addr s).result = s.result := rfl
@[simp] theorem completeBusError_errAddr (addr : Word) (s : State) : (completeBusError addr s).errAddr = addr := rfl
@[simp] theorem completeBusError_refBase (addr : Word) (s : State) : (completeBusError addr s).refBase = s.refBase := rfl
@[simp] theorem completeBusError_refStride (addr : Word) (s : State) : (completeBusError addr s).refStride = s.refStride := rfl
@[simp] theorem completeBusError_wsrcBase (addr : Word) (s : State) : (completeBusError addr s).wsrcBase = s.wsrcBase := rfl
@[simp] theorem completeBusError_mskBase (addr : Word) (s : State) : (completeBusError addr s).mskBase = s.mskBase := rfl
@[simp] theorem completeBusError_eng (addr : Word) (s : State) : (completeBusError addr s).eng = { s.eng with pend := [] } := rfl
@[simp] theorem completeBusError_mem (addr : Word) (s : State) : (completeBusError addr s).mem = s.mem := rfl
@[simp] theorem completeBusError_inputs (addr : Word) (s : State) : (completeBusError addr s).inputs = s.inputs := rfl
@[simp] theorem completeBusError_readData (addr : Word) (s : State) : (completeBusError addr s).readData = s.readData := rfl
@[simp] theorem completeBusError_watch (addr : Word) (s : State) : (completeBusError addr s).watch = .off := rfl
@[simp] theorem completeBusError_draws (addr : Word) (s : State) : (completeBusError addr s).draws = s.draws := rfl

@[simp] theorem recordBusError_ctrl (addr : Word) (s : State) : (recordBusError addr s).ctrl = s.ctrl := rfl
@[simp] theorem recordBusError_status (addr : Word) (s : State) : (recordBusError addr s).status = s.status := rfl
@[simp] theorem recordBusError_cmd (addr : Word) (s : State) : (recordBusError addr s).cmd = s.cmd := rfl
@[simp] theorem recordBusError_result (addr : Word) (s : State) : (recordBusError addr s).result = s.result := rfl
@[simp] theorem recordBusError_errAddr (addr : Word) (s : State) : (recordBusError addr s).errAddr = s.errAddr := rfl
@[simp] theorem recordBusError_refBase (addr : Word) (s : State) : (recordBusError addr s).refBase = s.refBase := rfl
@[simp] theorem recordBusError_refStride (addr : Word) (s : State) : (recordBusError addr s).refStride = s.refStride := rfl
@[simp] theorem recordBusError_wsrcBase (addr : Word) (s : State) : (recordBusError addr s).wsrcBase = s.wsrcBase := rfl
@[simp] theorem recordBusError_mskBase (addr : Word) (s : State) : (recordBusError addr s).mskBase = s.mskBase := rfl
@[simp] theorem recordBusError_eng (addr : Word) (s : State) : (recordBusError addr s).eng = { s.eng with berr := some addr } := rfl
@[simp] theorem recordBusError_mem (addr : Word) (s : State) : (recordBusError addr s).mem = s.mem := rfl
@[simp] theorem recordBusError_inputs (addr : Word) (s : State) : (recordBusError addr s).inputs = s.inputs := rfl
@[simp] theorem recordBusError_readData (addr : Word) (s : State) : (recordBusError addr s).readData = s.readData := rfl
@[simp] theorem recordBusError_watch (addr : Word) (s : State) : (recordBusError addr s).watch = s.watch := rfl
@[simp] theorem recordBusError_draws (addr : Word) (s : State) : (recordBusError addr s).draws = s.draws + 1 := rfl

@[simp] theorem accumulateBatch_ctrl (p : Params) (s : State) : (accumulateBatch p s).ctrl = s.ctrl := rfl
@[simp] theorem accumulateBatch_status (p : Params) (s : State) : (accumulateBatch p s).status = s.status := rfl
@[simp] theorem accumulateBatch_cmd (p : Params) (s : State) : (accumulateBatch p s).cmd = s.cmd := rfl
@[simp] theorem accumulateBatch_result (p : Params) (s : State) : (accumulateBatch p s).result = s.result := rfl
@[simp] theorem accumulateBatch_errAddr (p : Params) (s : State) : (accumulateBatch p s).errAddr = s.errAddr := rfl
@[simp] theorem accumulateBatch_refBase (p : Params) (s : State) : (accumulateBatch p s).refBase = s.refBase := rfl
@[simp] theorem accumulateBatch_refStride (p : Params) (s : State) : (accumulateBatch p s).refStride = s.refStride := rfl
@[simp] theorem accumulateBatch_wsrcBase (p : Params) (s : State) : (accumulateBatch p s).wsrcBase = s.wsrcBase := rfl
@[simp] theorem accumulateBatch_mskBase (p : Params) (s : State) : (accumulateBatch p s).mskBase = s.mskBase := rfl
@[simp] theorem accumulateBatch_eng (p : Params) (s : State) : (accumulateBatch p s).eng = { s.eng with
      acc := accumulate (turnBytes p s) s.eng s.eng.acc (chosenPixels p s)
      ood := s.eng.ood || anyOutside (turnBytes p s) s.eng (chosenPixels p s)
      pend := s.eng.pend.filter fun n => !chosen p s n } := rfl
@[simp] theorem accumulateBatch_mem (p : Params) (s : State) : (accumulateBatch p s).mem = s.mem := rfl
@[simp] theorem accumulateBatch_inputs (p : Params) (s : State) : (accumulateBatch p s).inputs = s.inputs := rfl
@[simp] theorem accumulateBatch_readData (p : Params) (s : State) : (accumulateBatch p s).readData = s.readData := rfl
@[simp] theorem accumulateBatch_watch (p : Params) (s : State) : (accumulateBatch p s).watch = s.watch := rfl
@[simp] theorem accumulateBatch_draws (p : Params) (s : State) : (accumulateBatch p s).draws = s.draws + 1 := rfl

@[simp] theorem engineReset_ctrl (s : State) : (engineReset s).ctrl = State.reset.ctrl := rfl
@[simp] theorem engineReset_status (s : State) : (engineReset s).status = State.reset.status := rfl
@[simp] theorem engineReset_cmd (s : State) : (engineReset s).cmd = State.reset.cmd := rfl
@[simp] theorem engineReset_result (s : State) : (engineReset s).result = State.reset.result := rfl
@[simp] theorem engineReset_errAddr (s : State) : (engineReset s).errAddr = State.reset.errAddr := rfl
@[simp] theorem engineReset_refBase (s : State) : (engineReset s).refBase = State.reset.refBase := rfl
@[simp] theorem engineReset_refStride (s : State) : (engineReset s).refStride = State.reset.refStride := rfl
@[simp] theorem engineReset_wsrcBase (s : State) : (engineReset s).wsrcBase = State.reset.wsrcBase := rfl
@[simp] theorem engineReset_mskBase (s : State) : (engineReset s).mskBase = State.reset.mskBase := rfl
@[simp] theorem engineReset_eng (s : State) : (engineReset s).eng = State.reset.eng := rfl
@[simp] theorem engineReset_mem (s : State) : (engineReset s).mem = s.mem := rfl
@[simp] theorem engineReset_inputs (s : State) : (engineReset s).inputs = s.inputs := rfl
@[simp] theorem engineReset_readData (s : State) : (engineReset s).readData = s.readData := rfl
@[simp] theorem engineReset_watch (s : State) : (engineReset s).watch = State.reset.watch := rfl
@[simp] theorem engineReset_draws (s : State) : (engineReset s).draws = s.draws := rfl

/-! The STATUS updates, field by field. -/

@[simp] theorem statusAtAcceptance_busy (st : Status) : (statusAtAcceptance st).busy = st.busy := rfl
@[simp] theorem statusAtAcceptance_done (st : Status) : (statusAtAcceptance st).done = false := rfl
@[simp] theorem statusAtAcceptance_err (st : Status) : (statusAtAcceptance st).err = false := rfl
@[simp] theorem statusAtAcceptance_ovf (st : Status) : (statusAtAcceptance st).ovf = false := rfl
@[simp] theorem statusAtAcceptance_wign (st : Status) : (statusAtAcceptance st).wign = st.wign := rfl
@[simp] theorem statusAtAcceptance_errCode (st : Status) : (statusAtAcceptance st).errCode = .none := rfl

@[simp] theorem statusOnError_busy (code : ErrCode) (st : Status) : (statusOnError code st).busy = false := rfl
@[simp] theorem statusOnError_done (code : ErrCode) (st : Status) : (statusOnError code st).done = true := rfl
@[simp] theorem statusOnError_err (code : ErrCode) (st : Status) : (statusOnError code st).err = true := rfl
@[simp] theorem statusOnError_ovf (code : ErrCode) (st : Status) : (statusOnError code st).ovf = st.ovf := rfl
@[simp] theorem statusOnError_wign (code : ErrCode) (st : Status) : (statusOnError code st).wign = st.wign := rfl
@[simp] theorem statusOnError_errCode (code : ErrCode) (st : Status) : (statusOnError code st).errCode = code := rfl

@[simp] theorem statusOnCompletion_busy (p : Params) (ood : Bool) (st : Status) : (statusOnCompletion p ood st).busy = false := rfl
@[simp] theorem statusOnCompletion_done (p : Params) (ood : Bool) (st : Status) : (statusOnCompletion p ood st).done = true := rfl
@[simp] theorem statusOnCompletion_err (p : Params) (ood : Bool) (st : Status) : (statusOnCompletion p ood st).err = st.err := rfl
@[simp] theorem statusOnCompletion_ovf (p : Params) (ood : Bool) (st : Status) : (statusOnCompletion p ood st).ovf = (p.diagOvf && ood) := rfl
@[simp] theorem statusOnCompletion_wign (p : Params) (ood : Bool) (st : Status) : (statusOnCompletion p ood st).wign = st.wign := rfl
@[simp] theorem statusOnCompletion_errCode (p : Params) (ood : Bool) (st : Status) : (statusOnCompletion p ood st).errCode = st.errCode := rfl

end Sys2Proof.Machine
end

