-- ==== Sys2Proof/Laws/Access.lean ====
section
/-! SUPPORT. What the shared operations of host accesses can do: the busy guard, the alignment checks, the
acceptance. -/

namespace Sys2Proof.Machine

/-- A guarded write either is ignored by a busy engine or is performed on an idle one. -/
theorem guardedWrite_cases (write : State → State) (s : State) :
    (s.status.busy = true ∧ guardedWrite write s = ignoreWrite s)
      ∨ (s.status.busy = false ∧ guardedWrite write s = write s) := by
  cases h : s.status.busy <;> simp [guardedWrite, h]

theorem guardedWrite_busy {write : State → State} {s : State} (h : s.status.busy = true) :
    guardedWrite write s = ignoreWrite s := by simp [guardedWrite, h]

theorem guardedWrite_idle {write : State → State} {s : State} (h : s.status.busy = false) :
    guardedWrite write s = write s := by simp [guardedWrite, h]

theorem writeCommand_busy {word : Word} {dec : Decoded} {s : State} (h : s.status.busy = true) :
    writeCommand word dec s = ignoreWrite s := guardedWrite_busy h

theorem writeCommand_idle {word : Word} {dec : Decoded} {s : State} (h : s.status.busy = false) :
    writeCommand word dec s = acceptCommand word dec s := guardedWrite_idle h

/-- The alignment test of a base register, as a remainder. -/
theorem lowBit_eq (x : Word) : x.getLsbD 0 = decide (x.toNat % 2 = 1) := by
  simp [BitVec.getLsbD, Nat.testBit_zero]

theorem lowTwoBits_eq (x : Word) : x.extractLsb' 0 2 = 0#2 ↔ x.toNat % 4 = 0 := by
  rw [BitVec.toNat_eq]
  simp

/-- The alignment checks pass exactly on aligned bases (20_memory.md R66). -/
theorem misalignedBase_none {d : Depth} {s : State} :
    misalignedBase d s = none ↔
      (d = .wide → s.refBase.toNat % 2 = 0) ∧ s.wsrcBase.toNat % 4 = 0 ∧ s.mskBase.toNat % 4 = 0 := by
  unfold misalignedBase
  simp only [lowBit_eq, decide_eq_true_eq, ne_eq, lowTwoBits_eq]
  split
  · rename_i h
    simp [h.1, h.2]
  · rename_i h
    have hr : d = .wide → s.refBase.toNat % 2 = 0 := fun hd => by
      have : ¬ s.refBase.toNat % 2 = 1 := fun h' => h ⟨hd, h'⟩
      omega
    split
    · rename_i h'
      simp [h']
    · split <;> simp_all

/-- What an acceptance can end in. -/
theorem acceptCommand_cases (word : Word) (dec : Decoded) (s : State) :
    (∃ code, dec = .reject code ∧ acceptCommand word dec s = raiseError code 0#32 (beginAcceptance word s))
      ∨ (∃ w h d base, dec = .op w h d ∧ misalignedBase d s = some base
          ∧ acceptCommand word dec s = raiseError .misaligned base (beginAcceptance word s))
      ∨ (∃ w h d, dec = .op w h d ∧ misalignedBase d s = none
          ∧ acceptCommand word dec s = latchCommand w h d (beginAcceptance word s)) := by
  cases dec with
  | reject code => exact .inl ⟨code, rfl, rfl⟩
  | op w h d =>
    cases hm : misalignedBase d s with
    | some base => exact .inr (.inl ⟨w, h, d, base, rfl, hm, by simp [acceptCommand, hm]⟩)
    | none => exact .inr (.inr ⟨w, h, d, rfl, hm, by simp [acceptCommand, hm]⟩)

/-- An acceptance touches neither memory, RESULT, CTRL, the operand registers nor the model's own fields but the
watch. -/
theorem acceptCommand_frame (word : Word) (dec : Decoded) (s : State) :
    (acceptCommand word dec s).mem = s.mem ∧ (acceptCommand word dec s).result = s.result
      ∧ (acceptCommand word dec s).ctrl = s.ctrl ∧ (acceptCommand word dec s).refBase = s.refBase
      ∧ (acceptCommand word dec s).refStride = s.refStride ∧ (acceptCommand word dec s).wsrcBase = s.wsrcBase
      ∧ (acceptCommand word dec s).mskBase = s.mskBase ∧ (acceptCommand word dec s).inputs = s.inputs
      ∧ (acceptCommand word dec s).readData = s.readData ∧ (acceptCommand word dec s).draws = s.draws
      ∧ (acceptCommand word dec s).cmd = word := by
  rcases acceptCommand_cases word dec s with ⟨_, _, h⟩ | ⟨_, _, _, _, _, _, h⟩ | ⟨_, _, _, _, _, h⟩ <;>
    simp [h]

/-- A STATUS read changes the model's watch and nothing else. -/
theorem observeStatus_eq (s : State) :
    observeStatus s =
      { s with watch := if s.status.busy = false ∧ s.status.done = true then .off else s.watch } := by
  unfold observeStatus
  cases s.status.busy <;> cases s.status.done <;> simp

/-- The step with an input pending. -/
theorem step_cons {s : State} {input : Input} {rest : List Input} (h : s.inputs = input :: rest) :
    step s = runInput input { s with inputs := rest } := by simp [step, h]

/-- What `hostLoad` can do. -/
theorem hostLoad_cases (p : Params) (addr : Word) (s : State) :
    (inWindow p addr = true ∧ hostLoad p addr s = .refused .loadInWindow)
      ∨ (inWindow p addr = false ∧ holdsMemory p addr = true ∧ hostLoad p addr s = .next (loadByte p addr s))
      ∨ (inWindow p addr = false ∧ holdsMemory p addr = false ∧ hostLoad p addr s = .fault .loadUnmapped) := by
  unfold hostLoad
  cases inWindow p addr <;> cases holdsMemory p addr <;> simp

/-- What `hostStore` can do. -/
theorem hostStore_cases (p : Params) (addr : Word) (b : Byte) (s : State) :
    (inWindow p addr = true ∧ hostStore p addr b s = .refused .storeInWindow)
      ∨ (inWindow p addr = false ∧ holdsMemory p addr = true
          ∧ hostStore p addr b s = .next (storeByte p addr b s))
      ∨ (inWindow p addr = false ∧ holdsMemory p addr = false ∧ hostStore p addr b s = .fault .storeUnmapped) := by
  unfold hostStore
  cases inWindow p addr <;> cases holdsMemory p addr <;> simp

end Sys2Proof.Machine
end

