-- ==== Sys2Proof/Laws/Engine.lean ====
section
/-! SUPPORT. What an engine turn can do, and how accumulation composes. -/

namespace Sys2Proof.Machine

@[simp] theorem accumulate_nil (byte : Nat → Elem → Word → Byte) (e : Engine) (acc : Word) :
    accumulate byte e acc [] = acc := rfl

@[simp] theorem accumulate_cons (byte : Nat → Elem → Word → Byte) (e : Engine) (acc : Word) (n : Nat)
    (l : List Nat) :
    accumulate byte e acc (n :: l) = accumulate byte e (acc + BitVec.ofNat 32 (termOf byte e n).1) l := rfl

theorem accumulate_append (byte : Nat → Elem → Word → Byte) (e : Engine) (acc : Word) (l l' : List Nat) :
    accumulate byte e acc (l ++ l') = accumulate byte e (accumulate byte e acc l) l' := by
  simp [accumulate]

@[simp] theorem anyOutside_nil (byte : Nat → Elem → Word → Byte) (e : Engine) : anyOutside byte e [] = false := rfl

@[simp] theorem anyOutside_cons (byte : Nat → Elem → Word → Byte) (e : Engine) (n : Nat) (l : List Nat) :
    anyOutside byte e (n :: l) = (!(termOf byte e n).2 || anyOutside byte e l) := rfl

/-- The term of a pixel depends on the latched geometry and bases only. -/
theorem termOf_congr_engine (byte : Nat → Elem → Word → Byte) (e : Engine) (acc : Word) (pend : List Nat)
    (ood : Bool) (berr : Option Word) :
    termOf byte { e with acc := acc, pend := pend, ood := ood, berr := berr } = termOf byte e := rfl

/-- The chosen pixels are not none while a pixel is pending. -/
theorem chosenPixels_ne_nil (p : Params) (s : State) (h : s.eng.pend ≠ []) : chosenPixels p s ≠ [] := by
  unfold chosenPixels
  by_cases hb : s.eng.pend.any (p.batch s.draws) = true
  · obtain ⟨n, hn, hc⟩ := List.any_eq_true.1 hb
    exact List.ne_nil_of_mem (List.mem_filter.2 ⟨hn, by simp only [chosen, hb, if_true, hc]⟩)
  · cases hp : s.eng.pend with
    | nil => exact absurd hp h
    | cons n l =>
      have hc : chosen p s n = true := by
        simp only [chosen, hb]
        simp [hp]
      exact List.ne_nil_of_mem (a := n) (List.mem_filter.2 ⟨by simp, hc⟩)

theorem mem_chosenPixels {p : Params} {s : State} {n : Nat} :
    n ∈ chosenPixels p s ↔ n ∈ s.eng.pend ∧ chosen p s n = true := List.mem_filter

/-- A batch takes at least one pixel out of PEND. -/
theorem pend_shrinks (p : Params) (s : State) (h : s.eng.pend ≠ []) :
    (s.eng.pend.filter fun n => !chosen p s n).length < s.eng.pend.length := by
  obtain ⟨n, hn⟩ := List.exists_mem_of_ne_nil _ (chosenPixels_ne_nil p s h)
  rw [mem_chosenPixels] at hn
  rw [List.length_filter_lt_length_iff_exists]
  exact ⟨n, hn.1, by simp [hn.2]⟩

/-- What a failing read is. -/
theorem mem_failingReads {p : Params} {e : Engine} {pixels : List Nat} {addr : Word} :
    addr ∈ failingReads p e pixels ↔
      ∃ n ∈ pixels, ∃ elem, p.memOk (elemAddr e elem n) (elemSize e.depth elem) = false
        ∧ addr = elemAddr e elem n := by
  have all : ∀ elem : Elem, elem ∈ allElems := fun elem => by cases elem <;> decide
  simp only [failingReads, List.mem_flatMap, failingOfPixel, List.mem_map, List.mem_filter,
    Bool.not_eq_true']
  constructor
  · rintro ⟨n, hn, elem, ⟨-, hf⟩, rfl⟩
    exact ⟨n, hn, elem, hf, rfl⟩
  · rintro ⟨n, hn, elem, hf, rfl⟩
    exact ⟨n, hn, elem, ⟨all elem, hf⟩, rfl⟩

theorem reportedRead_mem (p : Params) (s : State) (first : Word) (more : List Word) :
    reportedRead p s first more ∈ first :: more := by
  have hlt : p.pickFail s.draws % (first :: more).length < (first :: more).length := Nat.mod_lt _ (by simp)
  unfold reportedRead
  rw [List.getD_eq_getElem _ _ hlt]
  exact List.getElem_mem hlt

/-- An engine step either records one failing read of the chosen pixels, or accumulates them all. -/
theorem engineStep_cases (p : Params) (s : State) :
    (∃ addr ∈ failingReads p s.eng (chosenPixels p s), engineStep p s = recordBusError addr s)
      ∨ (failingReads p s.eng (chosenPixels p s) = [] ∧ engineStep p s = accumulateBatch p s) := by
  unfold engineStep
  cases hf : failingReads p s.eng (chosenPixels p s) with
  | nil => exact .inr ⟨rfl, rfl⟩
  | cons first more => exact .inl ⟨_, reportedRead_mem p s first more, rfl⟩

/-- What an engine turn does, case by case (41_catalog_dispatch.md R151, R152, R153). -/
theorem engineTurn_cases (p : Params) (s : State) :
    (s.status.busy = false ∧ engineTurn p s = s)
      ∨ (s.status.busy = true ∧ ∃ addr, s.eng.berr = some addr ∧ engineTurn p s = completeBusError addr s)
      ∨ (s.status.busy = true ∧ s.eng.berr = none ∧ s.eng.pend = [] ∧ engineTurn p s = completeOk p s)
      ∨ (s.status.busy = true ∧ s.eng.berr = none ∧ s.eng.pend ≠ [] ∧ engineTurn p s = engineStep p s) := by
  unfold engineTurn
  cases hb : s.status.busy with
  | false => simp
  | true =>
    cases he : s.eng.berr with
    | some addr => simp
    | none => by_cases hp : s.eng.pend = [] <;> simp [hp]

@[simp] theorem runEngine_zero (p : Params) (s : State) : runEngine p 0 s = s := rfl

@[simp] theorem runEngine_succ (p : Params) (k : Nat) (s : State) :
    runEngine p (k + 1) s = runEngine p k (engineTurn p s) := rfl

/-- An idle engine's turns change nothing. -/
theorem runEngine_idle (p : Params) (k : Nat) {s : State} (h : s.status.busy = false) : runEngine p k s = s := by
  induction k with
  | zero => rfl
  | succ k ih => simp [engineTurn, h, ih]

end Sys2Proof.Machine
end

