-- ==== Sys2Proof/Laws/Exec.lean ====
section
/-! SUPPORT. What an instruction can do, said once: every meaning is one of the shared operations. -/

namespace Sys2Proof.Machine

/-- The effects an instruction can have on a state. A CMD-format instruction and `WR CMD` write a word together
with what the engine's Decode makes of it, or with an error (60_exceptions.md R232, R233). -/
inductive Effect (s : State) : State → Prop where
  | command (word : Word) (dec : Decoded)
      (h : dec = decodeCommand word s.ctrl.extEn ∨ ∃ code, dec = .reject code ∧ code ≠ .none) :
      Effect s (writeCommand word dec s)
  | ctrl (data : Word) : Effect s (guardedWrite (fun s => { s with ctrl := ctrlWritten platform data }) s)
  | status (data : Word) :
      Effect s
        { s with
          status := statusCleared data s.status
          errAddr := if data.getLsbD 2 then 0#32 else s.errAddr }
  | refBase (data : Word) : Effect s (guardedWrite (fun s => { s with refBase := data }) s)
  | refStride (data : Word) : Effect s (guardedWrite (fun s => { s with refStride := data }) s)
  | wsrcBase (data : Word) : Effect s (guardedWrite (fun s => { s with wsrcBase := data }) s)
  | mskBase (data : Word) : Effect s (guardedWrite (fun s => { s with mskBase := data }) s)
  | read (data : Word) : Effect s (returnData data s)
  | readStatus : Effect s (observeStatus (returnData (statusWord s.status) s))
  | nothing : Effect s s

/-- The engine's Decode never rejects with code 0. -/
theorem decodeCommand_reject {word : Word} {ext : Bool} {code : ErrCode}
    (h : decodeCommand word ext = .reject code) : code ≠ .none := by
  unfold decodeCommand at h
  split at h
  · cases h; decide
  · split at h
    · cases h
    · split at h
      · cases h
      · cases h; decide

/-- A word of a BASE shape decodes to its operation whatever EXT_EN holds. -/
theorem decodeCommand_base {word : Word} {w h : Nat} {d : Depth}
    (hf : decodeCommand word false = .op w h d) (ht : decodeCommand word true = .op w h d) (ext : Bool) :
    baseOp w h d = decodeCommand word ext := by
  cases ext
  · exact hf.symm
  · exact ht.symm

/-- A word of an EXT shape decodes to its operation exactly when EXT_EN = 1. -/
theorem decodeCommand_ext {word : Word} {w h : Nat} {d : Depth}
    (hf : decodeCommand word false = .reject .unsupportedShape) (ht : decodeCommand word true = .op w h d)
    (s : State) : extOp w h d s = decodeCommand word s.ctrl.extEn := by
  unfold extOp
  cases s.ctrl.extEn
  · exact hf.symm
  · exact ht.symm

/-- Every instruction runs, and its next state is one of the effects. -/
theorem exec_effect (i : Instr) (s : State) : ∃ t, exec i s = .next t ∧ Effect s t := by
  cases i
  case rejectReservedBit17 word => exact ⟨_, rfl, .command word _ (.inr ⟨_, rfl, by decide⟩)⟩
  case rejectReservedBit18 word => exact ⟨_, rfl, .command word _ (.inr ⟨_, rfl, by decide⟩)⟩
  case rejectReservedBit19 word => exact ⟨_, rfl, .command word _ (.inr ⟨_, rfl, by decide⟩)⟩
  case rejectReservedBit20 word => exact ⟨_, rfl, .command word _ (.inr ⟨_, rfl, by decide⟩)⟩
  case rejectReservedBit21 word => exact ⟨_, rfl, .command word _ (.inr ⟨_, rfl, by decide⟩)⟩
  case rejectReservedBit22 word => exact ⟨_, rfl, .command word _ (.inr ⟨_, rfl, by decide⟩)⟩
  case rejectReservedBit23 word => exact ⟨_, rfl, .command word _ (.inr ⟨_, rfl, by decide⟩)⟩
  case rejectReservedBit24 word => exact ⟨_, rfl, .command word _ (.inr ⟨_, rfl, by decide⟩)⟩
  case rejectReservedBit25 word => exact ⟨_, rfl, .command word _ (.inr ⟨_, rfl, by decide⟩)⟩
  case rejectReservedBit26 word => exact ⟨_, rfl, .command word _ (.inr ⟨_, rfl, by decide⟩)⟩
  case rejectReservedBit27 word => exact ⟨_, rfl, .command word _ (.inr ⟨_, rfl, by decide⟩)⟩
  case rejectReservedBit28 word => exact ⟨_, rfl, .command word _ (.inr ⟨_, rfl, by decide⟩)⟩
  case rejectReservedBit29 word => exact ⟨_, rfl, .command word _ (.inr ⟨_, rfl, by decide⟩)⟩
  case rejectReservedBit30 word => exact ⟨_, rfl, .command word _ (.inr ⟨_, rfl, by decide⟩)⟩
  case rejectReservedBit31 word => exact ⟨_, rfl, .command word _ (.inr ⟨_, rfl, by decide⟩)⟩
  case obmcsad8_4x4 => exact ⟨_, rfl, .command _ _ (.inl (decodeCommand_base (by decide) (by decide) s.ctrl.extEn))⟩
  case obmcsad16_4x4 => exact ⟨_, rfl, .command _ _ (.inl (decodeCommand_base (by decide) (by decide) s.ctrl.extEn))⟩
  case obmcsad8_8x8 => exact ⟨_, rfl, .command _ _ (.inl (decodeCommand_base (by decide) (by decide) s.ctrl.extEn))⟩
  case obmcsad16_8x8 => exact ⟨_, rfl, .command _ _ (.inl (decodeCommand_base (by decide) (by decide) s.ctrl.extEn))⟩
  case obmcsad8_16x16 => exact ⟨_, rfl, .command _ _ (.inl (decodeCommand_base (by decide) (by decide) s.ctrl.extEn))⟩
  case obmcsad16_16x16 => exact ⟨_, rfl, .command _ _ (.inl (decodeCommand_base (by decide) (by decide) s.ctrl.extEn))⟩
  case obmcsad8_32x32 => exact ⟨_, rfl, .command _ _ (.inl (decodeCommand_base (by decide) (by decide) s.ctrl.extEn))⟩
  case obmcsad16_32x32 => exact ⟨_, rfl, .command _ _ (.inl (decodeCommand_base (by decide) (by decide) s.ctrl.extEn))⟩
  case obmcsad8_64x64 => exact ⟨_, rfl, .command _ _ (.inl (decodeCommand_base (by decide) (by decide) s.ctrl.extEn))⟩
  case obmcsad16_64x64 => exact ⟨_, rfl, .command _ _ (.inl (decodeCommand_base (by decide) (by decide) s.ctrl.extEn))⟩
  case obmcsad8_4x8 => exact ⟨_, rfl, .command _ _ (.inl (decodeCommand_base (by decide) (by decide) s.ctrl.extEn))⟩
  case obmcsad16_4x8 => exact ⟨_, rfl, .command _ _ (.inl (decodeCommand_base (by decide) (by decide) s.ctrl.extEn))⟩
  case obmcsad8_8x4 => exact ⟨_, rfl, .command _ _ (.inl (decodeCommand_base (by decide) (by decide) s.ctrl.extEn))⟩
  case obmcsad16_8x4 => exact ⟨_, rfl, .command _ _ (.inl (decodeCommand_base (by decide) (by decide) s.ctrl.extEn))⟩
  case obmcsad8_8x16 => exact ⟨_, rfl, .command _ _ (.inl (decodeCommand_base (by decide) (by decide) s.ctrl.extEn))⟩
  case obmcsad16_8x16 => exact ⟨_, rfl, .command _ _ (.inl (decodeCommand_base (by decide) (by decide) s.ctrl.extEn))⟩
  case obmcsad8_16x8 => exact ⟨_, rfl, .command _ _ (.inl (decodeCommand_base (by decide) (by decide) s.ctrl.extEn))⟩
  case obmcsad16_16x8 => exact ⟨_, rfl, .command _ _ (.inl (decodeCommand_base (by decide) (by decide) s.ctrl.extEn))⟩
  case obmcsad8_16x32 => exact ⟨_, rfl, .command _ _ (.inl (decodeCommand_base (by decide) (by decide) s.ctrl.extEn))⟩
  case obmcsad16_16x32 => exact ⟨_, rfl, .command _ _ (.inl (decodeCommand_base (by decide) (by decide) s.ctrl.extEn))⟩
  case obmcsad8_32x16 => exact ⟨_, rfl, .command _ _ (.inl (decodeCommand_base (by decide) (by decide) s.ctrl.extEn))⟩
  case obmcsad16_32x16 => exact ⟨_, rfl, .command _ _ (.inl (decodeCommand_base (by decide) (by decide) s.ctrl.extEn))⟩
  case obmcsad8_32x64 => exact ⟨_, rfl, .command _ _ (.inl (decodeCommand_base (by decide) (by decide) s.ctrl.extEn))⟩
  case obmcsad16_32x64 => exact ⟨_, rfl, .command _ _ (.inl (decodeCommand_base (by decide) (by decide) s.ctrl.extEn))⟩
  case obmcsad8_64x32 => exact ⟨_, rfl, .command _ _ (.inl (decodeCommand_base (by decide) (by decide) s.ctrl.extEn))⟩
  case obmcsad16_64x32 => exact ⟨_, rfl, .command _ _ (.inl (decodeCommand_base (by decide) (by decide) s.ctrl.extEn))⟩
  case obmcsad8_128x128 => exact ⟨_, rfl, .command _ _ (.inl (decodeCommand_ext (by decide) (by decide) s))⟩
  case obmcsad16_128x128 => exact ⟨_, rfl, .command _ _ (.inl (decodeCommand_ext (by decide) (by decide) s))⟩
  case obmcsad8_128x64 => exact ⟨_, rfl, .command _ _ (.inl (decodeCommand_ext (by decide) (by decide) s))⟩
  case obmcsad16_128x64 => exact ⟨_, rfl, .command _ _ (.inl (decodeCommand_ext (by decide) (by decide) s))⟩
  case obmcsad8_64x128 => exact ⟨_, rfl, .command _ _ (.inl (decodeCommand_ext (by decide) (by decide) s))⟩
  case obmcsad16_64x128 => exact ⟨_, rfl, .command _ _ (.inl (decodeCommand_ext (by decide) (by decide) s))⟩
  case rejectUnsupportedShape word => exact ⟨_, rfl, .command word _ (.inr ⟨_, rfl, by decide⟩)⟩
  case rdCap => exact ⟨_, rfl, .read _⟩
  case rdCtrl => exact ⟨_, rfl, .read _⟩
  case rdStatus => exact ⟨_, rfl, .readStatus⟩
  case rdCmd => exact ⟨_, rfl, .read _⟩
  case rdResult => exact ⟨_, rfl, .read _⟩
  case rdErraddr => exact ⟨_, rfl, .read _⟩
  case rdRefBase => exact ⟨_, rfl, .read _⟩
  case rdRefStride => exact ⟨_, rfl, .read _⟩
  case rdWsrcBase => exact ⟨_, rfl, .read _⟩
  case rdMskBase => exact ⟨_, rfl, .read _⟩
  case wrCap data => exact ⟨_, rfl, .nothing⟩
  case wrCtrl data => exact ⟨_, rfl, .ctrl data⟩
  case wrStatus data => exact ⟨_, rfl, .status data⟩
  case wrCmd data => exact ⟨_, rfl, .command data _ (.inl rfl)⟩
  case wrResult data => exact ⟨_, rfl, .nothing⟩
  case wrErraddr data => exact ⟨_, rfl, .nothing⟩
  case wrRefBase data => exact ⟨_, rfl, .refBase data⟩
  case wrRefStride data => exact ⟨_, rfl, .refStride data⟩
  case wrWsrcBase data => exact ⟨_, rfl, .wsrcBase data⟩
  case wrMskBase data => exact ⟨_, rfl, .mskBase data⟩
  case rdReserved28 => exact ⟨_, rfl, .read _⟩
  case wrReserved28 data => exact ⟨_, rfl, .nothing⟩
  case rdReserved2C => exact ⟨_, rfl, .read _⟩
  case wrReserved2C data => exact ⟨_, rfl, .nothing⟩
  case rdReserved30 => exact ⟨_, rfl, .read _⟩
  case wrReserved30 data => exact ⟨_, rfl, .nothing⟩
  case rdReserved34 => exact ⟨_, rfl, .read _⟩
  case wrReserved34 data => exact ⟨_, rfl, .nothing⟩
  case rdReserved38 => exact ⟨_, rfl, .read _⟩
  case wrReserved38 data => exact ⟨_, rfl, .nothing⟩
  case rdReserved3C => exact ⟨_, rfl, .read _⟩
  case wrReserved3C data => exact ⟨_, rfl, .nothing⟩

/-- The form in which the statements about a next state use it. -/
theorem effect_of_exec {i : Instr} {s t : State} (h : exec i s = .next t) : Effect s t := by
  obtain ⟨t', ht, he⟩ := exec_effect i s
  rw [h] at ht
  cases ht
  exact he

end Sys2Proof.Machine
end

