-- ==== Sys2Proof/Laws/Kernel.lean ====
section
/-! SUPPORT. What the kernel depends on: element reads see their own bytes, a pixel its own operands, the sum its
terms. -/

namespace Sys2Proof.Machine

/-- A read of `k` bytes is a `k`-byte number. -/
theorem memRead_lt (byte : Word → Byte) (addr : Word) (k : Nat) : memRead byte addr k < 2 ^ (8 * k) := by
  induction k with
  | zero => simp [memRead]
  | succ k ih =>
    have hb := (byte (addr + BitVec.ofNat 32 k)).isLt
    have he : 2 ^ (8 * (k + 1)) = 2 ^ (8 * k) * 256 := by
      rw [show 8 * (k + 1) = 8 * k + 8 from rfl, pow_add]; norm_num
    have hp : 0 < 2 ^ (8 * k) := by positivity
    simp only [memRead, he]
    nlinarith

/-- A read depends on the bytes it reads only. -/
theorem memRead_congr {byte byte' : Word → Byte} {addr : Word} {k : Nat}
    (h : ∀ j, j < k → byte (addr + BitVec.ofNat 32 j) = byte' (addr + BitVec.ofNat 32 j)) :
    memRead byte addr k = memRead byte' addr k := by
  induction k with
  | zero => rfl
  | succ k ih => simp only [memRead]; rw [ih fun j hj => h j (by omega), h k (by omega)]

theorem elemSize_le (depth : Depth) (elem : Elem) : elemSize depth elem ≤ 4 := by
  cases elem <;> cases depth <;> decide

/-- The bytes of an element are those that `elemHolds` names. -/
theorem elemHolds_byte (e : Engine) (elem : Elem) (n j : Nat) (h : j < elemSize e.depth elem) :
    elemHolds e elem n (elemAddr e elem n + BitVec.ofNat 32 j) = true := by
  have h4 := elemSize_le e.depth elem
  have hs : elemAddr e elem n + BitVec.ofNat 32 j - elemAddr e elem n = BitVec.ofNat 32 j := by
    rw [BitVec.add_comm]; simp
  simp only [elemHolds, decide_eq_true_eq, hs, BitVec.toNat_ofNat]
  omega

/-- An element's bytes belong to the footprint. -/
theorem inFootprint_of_elemHolds {e : Engine} {elem : Elem} {n : Nat} {addr : Word} (hn : n < e.w * e.h)
    (h : elemHolds e elem n addr = true) : inFootprint e addr = true :=
  List.any_eq_true.2 ⟨n, List.mem_range.2 hn,
    List.any_eq_true.2 ⟨elem, by cases elem <;> decide, h⟩⟩

/-- A pixel's operands depend on the bytes of its elements only. -/
theorem fetchPixel_congr {byte byte' : Elem → Word → Byte} {e : Engine} {n : Nat}
    (h : ∀ elem addr, elemHolds e elem n addr = true → byte elem addr = byte' elem addr) :
    fetchPixel byte e n = fetchPixel byte' e n := by
  simp only [fetchPixel, PixelOperands.mk.injEq]
  refine ⟨memRead_congr fun j hj => h _ _ (elemHolds_byte e .sample n j hj), ?_, ?_⟩
  · rw [memRead_congr (k := 4) fun j hj => h _ _ (elemHolds_byte e .msk n j hj)]
  · rw [memRead_congr (k := 4) fun j hj => h _ _ (elemHolds_byte e .wsrc n j hj)]

/-- The accumulated value is the exact sum of the terms modulo 2^32. -/
theorem accumulate_toNat (byte : Nat → Elem → Word → Byte) (e : Engine) (l : List Nat) (acc : Word) :
    (accumulate byte e acc l).toNat =
      (acc.toNat + (l.map fun n => (termOf byte e n).1).sum) % 4294967296 := by
  induction l generalizing acc with
  | nil => exact (Nat.mod_eq_of_lt acc.isLt).symm
  | cons n l ih =>
    rw [accumulate_cons, ih, BitVec.toNat_add, BitVec.toNat_ofNat, List.map_cons, List.sum_cons]
    generalize (l.map fun n => (termOf byte e n).1).sum = rest
    generalize (termOf byte e n).1 = term
    generalize acc.toNat = first
    rw [Nat.add_mod_mod, Nat.mod_add_mod, Nat.add_assoc]

/-- Accumulation depends on the terms of its pixels only. -/
theorem accumulate_congr {byte byte' : Nat → Elem → Word → Byte} {e e' : Engine} {l : List Nat}
    (h : ∀ n ∈ l, termOf byte e n = termOf byte' e' n) (acc : Word) :
    accumulate byte e acc l = accumulate byte' e' acc l := by
  induction l generalizing acc with
  | nil => rw [accumulate_nil, accumulate_nil]
  | cons n l ih =>
    rw [accumulate_cons, accumulate_cons, h n (by simp), ih fun m hm => h m (by simp [hm])]

theorem anyOutside_congr {byte byte' : Nat → Elem → Word → Byte} {e e' : Engine} {l : List Nat}
    (h : ∀ n ∈ l, termOf byte e n = termOf byte' e' n) : anyOutside byte e l = anyOutside byte' e' l := by
  induction l with
  | nil => rw [anyOutside_nil, anyOutside_nil]
  | cons n l ih =>
    rw [anyOutside_cons, anyOutside_cons, h n (by simp), ih fun m hm => h m (by simp [hm])]

theorem anyOutside_eq_true {byte : Nat → Elem → Word → Byte} {e : Engine} {l : List Nat} :
    anyOutside byte e l = true ↔ ∃ n ∈ l, (termOf byte e n).2 = false := by
  simp [anyOutside]

end Sys2Proof.Machine
end

