-- ==== Sys2Proof/Laws/Memory.lean ====
section
/-! SUPPORT. Memory: a read after a write, and the canonical form, which every memory operation keeps. -/

namespace Sys2Proof.Machine

@[simp] theorem Memory.read_nil (a : Nat) : Memory.read [] a = none := rfl

/-- A read of the address just written gives the byte written. -/
@[simp] theorem Memory.read_write_same (m : Memory) (a : Nat) (b : Byte) : (m.write a b).read a = some b := by
  induction m with
  | nil => simp [Memory.write, Memory.read]
  | cons x m ih =>
    obtain ⟨a', b'⟩ := x
    by_cases h₁ : a < a'
    · simp [Memory.write, Memory.read, h₁]
    · by_cases h₂ : a = a'
      · simp [Memory.write, Memory.read, h₂]
      · simp [Memory.write, Memory.read, h₁, h₂, Ne.symm h₂, ih]

/-- A write leaves every other address alone. -/
theorem Memory.read_write_other (m : Memory) {a x : Nat} (b : Byte) (h : x ≠ a) :
    (m.write a b).read x = m.read x := by
  induction m with
  | nil => simp [Memory.write, Memory.read, Ne.symm h]
  | cons y m ih =>
    obtain ⟨a', b'⟩ := y
    by_cases h₁ : a < a'
    · simp [Memory.write, Memory.read, h₁, Ne.symm h]
    · by_cases h₂ : a = a'
      · subst h₂
        simp [Memory.write, Memory.read, Ne.symm h]
      · simp [Memory.write, Memory.read, h₁, h₂, ih]

/-- What a write lists: the cell written, or a cell that was there. -/
theorem Memory.mem_write {m : Memory} {a : Nat} {b : Byte} {y : Host.Cell} (h : y ∈ m.write a b) :
    y = (a, b) ∨ y ∈ m := by
  induction m with
  | nil => simpa [Memory.write] using h
  | cons x m ih =>
    obtain ⟨a', b'⟩ := x
    by_cases h₁ : a < a'
    · simpa [Memory.write, h₁] using h
    · by_cases h₂ : a = a'
      · subst h₂
        simp only [Memory.write, lt_irrefl, if_true, if_false, List.mem_cons] at h
        rcases h with h | h
        · exact .inl h
        · exact .inr (by simp [h])
      · simp only [Memory.write, h₁, h₂, if_false, List.mem_cons] at h
        rcases h with h | h
        · exact .inr (by simp [h])
        · exact (ih h).imp id (by simp +contextual)

theorem Memory.wf_iff (m : Memory) :
    m.wf = true ↔ (m.Pairwise fun x y => x.1 < y.1) ∧ ∀ x ∈ m, x.1 < 2 ^ 32 := by
  simp [Memory.wf]

/-- A write inside the address space keeps the canonical form. -/
theorem Memory.wf_write {m : Memory} {a : Nat} (b : Byte) (hm : m.wf = true) (ha : a < 2 ^ 32) :
    (m.write a b).wf = true := by
  rw [Memory.wf_iff] at hm ⊢
  refine ⟨?_, fun y hy => ?_⟩
  · have hs := hm.1
    clear hm
    induction m with
    | nil => simp [Memory.write]
    | cons x m ih =>
      obtain ⟨a', b'⟩ := x
      obtain ⟨hx, ht⟩ := List.pairwise_cons.1 hs
      by_cases h₁ : a < a'
      · simp only [Memory.write, h₁, if_true]
        refine List.pairwise_cons.2 ⟨fun y hy => ?_, hs⟩
        rcases List.mem_cons.1 hy with rfl | hy
        · exact h₁
        · exact h₁.trans (hx y hy)
      · by_cases h₂ : a = a'
        · subst h₂
          simp only [Memory.write, lt_irrefl, if_true, if_false]
          exact List.pairwise_cons.2 ⟨hx, ht⟩
        · simp only [Memory.write, h₁, h₂, if_false]
          refine List.pairwise_cons.2 ⟨fun y hy => ?_, ih ht⟩
          rcases Memory.mem_write hy with rfl | hy
          · show a' < a
            omega
          · exact hx y hy
  · rcases Memory.mem_write hy with rfl | hy
    · exact ha
    · exact hm.2 y hy

theorem reset_mem_wf : State.reset.mem.wf = true := by decide

/-- No named update but the byte store writes memory; the byte store keeps the canonical form. -/
theorem storeByte_mem (p : Params) (addr : Word) (b : Byte) (s : State) :
    (storeByte p addr b s).mem = s.mem.write addr.toNat b := by
  unfold storeByte disturb
  repeat' split
  all_goals rfl

theorem storeByte_mem_wf (p : Params) (addr : Word) (b : Byte) (s : State) (h : s.mem.wf = true) :
    (storeByte p addr b s).mem.wf = true := by
  rw [storeByte_mem]
  exact Memory.wf_write b h addr.isLt

/-- What a byte store can do beside writing the byte (20_memory.md R75; log entry 6). -/
theorem storeByte_cases (p : Params) (addr : Word) (b : Byte) (s : State) :
    ((inFootprint s.eng addr = false ∨ s.watch ≠ .stable)
        ∧ storeByte p addr b s = { s with mem := s.mem.write addr.toNat b })
      ∨ (inFootprint s.eng addr = true ∧ s.watch = .stable ∧ s.status.busy = true
        ∧ storeByte p addr b s = { s with watch := .written, mem := s.mem.write addr.toNat b })
      ∨ (inFootprint s.eng addr = true ∧ s.watch = .stable ∧ s.status.busy = false
        ∧ storeByte p addr b s =
          { s with
            watch := .written, result := p.drawWord s.draws, draws := s.draws + 1
            mem := s.mem.write addr.toNat b }) := by
  unfold storeByte disturb
  cases hf : inFootprint s.eng addr
  · exact .inl ⟨.inl rfl, rfl⟩
  · cases hw : s.watch with
    | off => simp [hw]
    | written => simp [hw]
    | stable => cases hb : s.status.busy <;> simp

end Sys2Proof.Machine
end

