-- ==== Sys2Proof/Laws/PerInstr.lean ====
section
/-! SUPPORT. Families of lemmas about every instruction, one lemma per constructor. -/

namespace Sys2Proof.Laws

/-- A request of the access format: a command word, or a 32-bit access at a multiple of 4 inside the 64-byte window
(30_encoding.md R98). -/
def requestInFormat : Request → Bool
  | .command _ => true
  | .access _ offset size _ => size == 4 && offset % 4 == 0 && decide (offset < 64)

/-- Every instruction is encoded as a request of the access format. -/
def InAccessFormat.Statement (i : Instr) : Prop := requestInFormat (encode i) = true

theorem InAccessFormat.rejectReservedBit17 (word : Word) : InAccessFormat.Statement (.rejectReservedBit17 word) := rfl
theorem InAccessFormat.rejectReservedBit18 (word : Word) : InAccessFormat.Statement (.rejectReservedBit18 word) := rfl
theorem InAccessFormat.rejectReservedBit19 (word : Word) : InAccessFormat.Statement (.rejectReservedBit19 word) := rfl
theorem InAccessFormat.rejectReservedBit20 (word : Word) : InAccessFormat.Statement (.rejectReservedBit20 word) := rfl
theorem InAccessFormat.rejectReservedBit21 (word : Word) : InAccessFormat.Statement (.rejectReservedBit21 word) := rfl
theorem InAccessFormat.rejectReservedBit22 (word : Word) : InAccessFormat.Statement (.rejectReservedBit22 word) := rfl
theorem InAccessFormat.rejectReservedBit23 (word : Word) : InAccessFormat.Statement (.rejectReservedBit23 word) := rfl
theorem InAccessFormat.rejectReservedBit24 (word : Word) : InAccessFormat.Statement (.rejectReservedBit24 word) := rfl
theorem InAccessFormat.rejectReservedBit25 (word : Word) : InAccessFormat.Statement (.rejectReservedBit25 word) := rfl
theorem InAccessFormat.rejectReservedBit26 (word : Word) : InAccessFormat.Statement (.rejectReservedBit26 word) := rfl
theorem InAccessFormat.rejectReservedBit27 (word : Word) : InAccessFormat.Statement (.rejectReservedBit27 word) := rfl
theorem InAccessFormat.rejectReservedBit28 (word : Word) : InAccessFormat.Statement (.rejectReservedBit28 word) := rfl
theorem InAccessFormat.rejectReservedBit29 (word : Word) : InAccessFormat.Statement (.rejectReservedBit29 word) := rfl
theorem InAccessFormat.rejectReservedBit30 (word : Word) : InAccessFormat.Statement (.rejectReservedBit30 word) := rfl
theorem InAccessFormat.rejectReservedBit31 (word : Word) : InAccessFormat.Statement (.rejectReservedBit31 word) := rfl
theorem InAccessFormat.obmcsad8_4x4 : InAccessFormat.Statement .obmcsad8_4x4 := rfl
theorem InAccessFormat.obmcsad16_4x4 : InAccessFormat.Statement .obmcsad16_4x4 := rfl
theorem InAccessFormat.obmcsad8_8x8 : InAccessFormat.Statement .obmcsad8_8x8 := rfl
theorem InAccessFormat.obmcsad16_8x8 : InAccessFormat.Statement .obmcsad16_8x8 := rfl
theorem InAccessFormat.obmcsad8_16x16 : InAccessFormat.Statement .obmcsad8_16x16 := rfl
theorem InAccessFormat.obmcsad16_16x16 : InAccessFormat.Statement .obmcsad16_16x16 := rfl
theorem InAccessFormat.obmcsad8_32x32 : InAccessFormat.Statement .obmcsad8_32x32 := rfl
theorem InAccessFormat.obmcsad16_32x32 : InAccessFormat.Statement .obmcsad16_32x32 := rfl
theorem InAccessFormat.obmcsad8_64x64 : InAccessFormat.Statement .obmcsad8_64x64 := rfl
theorem InAccessFormat.obmcsad16_64x64 : InAccessFormat.Statement .obmcsad16_64x64 := rfl
theorem InAccessFormat.obmcsad8_4x8 : InAccessFormat.Statement .obmcsad8_4x8 := rfl
theorem InAccessFormat.obmcsad16_4x8 : InAccessFormat.Statement .obmcsad16_4x8 := rfl
theorem InAccessFormat.obmcsad8_8x4 : InAccessFormat.Statement .obmcsad8_8x4 := rfl
theorem InAccessFormat.obmcsad16_8x4 : InAccessFormat.Statement .obmcsad16_8x4 := rfl
theorem InAccessFormat.obmcsad8_8x16 : InAccessFormat.Statement .obmcsad8_8x16 := rfl
theorem InAccessFormat.obmcsad16_8x16 : InAccessFormat.Statement .obmcsad16_8x16 := rfl
theorem InAccessFormat.obmcsad8_16x8 : InAccessFormat.Statement .obmcsad8_16x8 := rfl
theorem InAccessFormat.obmcsad16_16x8 : InAccessFormat.Statement .obmcsad16_16x8 := rfl
theorem InAccessFormat.obmcsad8_16x32 : InAccessFormat.Statement .obmcsad8_16x32 := rfl
theorem InAccessFormat.obmcsad16_16x32 : InAccessFormat.Statement .obmcsad16_16x32 := rfl
theorem InAccessFormat.obmcsad8_32x16 : InAccessFormat.Statement .obmcsad8_32x16 := rfl
theorem InAccessFormat.obmcsad16_32x16 : InAccessFormat.Statement .obmcsad16_32x16 := rfl
theorem InAccessFormat.obmcsad8_32x64 : InAccessFormat.Statement .obmcsad8_32x64 := rfl
theorem InAccessFormat.obmcsad16_32x64 : InAccessFormat.Statement .obmcsad16_32x64 := rfl
theorem InAccessFormat.obmcsad8_64x32 : InAccessFormat.Statement .obmcsad8_64x32 := rfl
theorem InAccessFormat.obmcsad16_64x32 : InAccessFormat.Statement .obmcsad16_64x32 := rfl
theorem InAccessFormat.obmcsad8_128x128 : InAccessFormat.Statement .obmcsad8_128x128 := rfl
theorem InAccessFormat.obmcsad16_128x128 : InAccessFormat.Statement .obmcsad16_128x128 := rfl
theorem InAccessFormat.obmcsad8_128x64 : InAccessFormat.Statement .obmcsad8_128x64 := rfl
theorem InAccessFormat.obmcsad16_128x64 : InAccessFormat.Statement .obmcsad16_128x64 := rfl
theorem InAccessFormat.obmcsad8_64x128 : InAccessFormat.Statement .obmcsad8_64x128 := rfl
theorem InAccessFormat.obmcsad16_64x128 : InAccessFormat.Statement .obmcsad16_64x128 := rfl
theorem InAccessFormat.rejectUnsupportedShape (word : Word) : InAccessFormat.Statement (.rejectUnsupportedShape word) := rfl
theorem InAccessFormat.rdCap : InAccessFormat.Statement .rdCap := rfl
theorem InAccessFormat.rdCtrl : InAccessFormat.Statement .rdCtrl := rfl
theorem InAccessFormat.rdStatus : InAccessFormat.Statement .rdStatus := rfl
theorem InAccessFormat.rdCmd : InAccessFormat.Statement .rdCmd := rfl
theorem InAccessFormat.rdResult : InAccessFormat.Statement .rdResult := rfl
theorem InAccessFormat.rdErraddr : InAccessFormat.Statement .rdErraddr := rfl
theorem InAccessFormat.rdRefBase : InAccessFormat.Statement .rdRefBase := rfl
theorem InAccessFormat.rdRefStride : InAccessFormat.Statement .rdRefStride := rfl
theorem InAccessFormat.rdWsrcBase : InAccessFormat.Statement .rdWsrcBase := rfl
theorem InAccessFormat.rdMskBase : InAccessFormat.Statement .rdMskBase := rfl
theorem InAccessFormat.wrCap (data : Word) : InAccessFormat.Statement (.wrCap data) := rfl
theorem InAccessFormat.wrCtrl (data : Word) : InAccessFormat.Statement (.wrCtrl data) := rfl
theorem InAccessFormat.wrStatus (data : Word) : InAccessFormat.Statement (.wrStatus data) := rfl
theorem InAccessFormat.wrCmd (data : Word) : InAccessFormat.Statement (.wrCmd data) := rfl
theorem InAccessFormat.wrResult (data : Word) : InAccessFormat.Statement (.wrResult data) := rfl
theorem InAccessFormat.wrErraddr (data : Word) : InAccessFormat.Statement (.wrErraddr data) := rfl
theorem InAccessFormat.wrRefBase (data : Word) : InAccessFormat.Statement (.wrRefBase data) := rfl
theorem InAccessFormat.wrRefStride (data : Word) : InAccessFormat.Statement (.wrRefStride data) := rfl
theorem InAccessFormat.wrWsrcBase (data : Word) : InAccessFormat.Statement (.wrWsrcBase data) := rfl
theorem InAccessFormat.wrMskBase (data : Word) : InAccessFormat.Statement (.wrMskBase data) := rfl
theorem InAccessFormat.rdReserved28 : InAccessFormat.Statement .rdReserved28 := rfl
theorem InAccessFormat.wrReserved28 (data : Word) : InAccessFormat.Statement (.wrReserved28 data) := rfl
theorem InAccessFormat.rdReserved2C : InAccessFormat.Statement .rdReserved2C := rfl
theorem InAccessFormat.wrReserved2C (data : Word) : InAccessFormat.Statement (.wrReserved2C data) := rfl
theorem InAccessFormat.rdReserved30 : InAccessFormat.Statement .rdReserved30 := rfl
theorem InAccessFormat.wrReserved30 (data : Word) : InAccessFormat.Statement (.wrReserved30 data) := rfl
theorem InAccessFormat.rdReserved34 : InAccessFormat.Statement .rdReserved34 := rfl
theorem InAccessFormat.wrReserved34 (data : Word) : InAccessFormat.Statement (.wrReserved34 data) := rfl
theorem InAccessFormat.rdReserved38 : InAccessFormat.Statement .rdReserved38 := rfl
theorem InAccessFormat.wrReserved38 (data : Word) : InAccessFormat.Statement (.wrReserved38 data) := rfl
theorem InAccessFormat.rdReserved3C : InAccessFormat.Statement .rdReserved3C := rfl
theorem InAccessFormat.wrReserved3C (data : Word) : InAccessFormat.Statement (.wrReserved3C data) := rfl

end Sys2Proof.Laws
end

