-- ==== Sys2Proof/Machine/Pseudo.lean ====
section
/-! DEFINITION. The host's pseudo-instructions as the inputs they expand to (30_encoding.md R100, R101). -/

namespace Sys2Proof.Machine

/-- `WR <REG>, value` at a register's offset (30_encoding.md R100). -/
def hostWrite (offset : Nat) (value : Word) : Input := .request (.access true offset 4 value)

/-- `RD <REG>` at a register's offset (30_encoding.md R100). -/
def hostRead (offset : Nat) : Input := .request (.access false offset 4 0#32)

/-- `OBMCSAD.<d>.<W>x<H>`: the write of its word to CMD (30_encoding.md R99, R101). -/
def hostCommand (word : Word) : Input := .request (.command word)

/-- `WAIT`: `POLL STATUS, 0x00000003, 0x00000002` (30_encoding.md R101, 70_reset_and_hazards.md R269). -/
def waitInputs : List Input := [.poll 0x08 0x00000003#32 0x00000002#32]

/-- `CLRST`: `WR STATUS, 0x0000001E` (30_encoding.md R101). -/
def clrstInputs : List Input := [hostWrite 0x08 0x0000001E#32]

/-- `SETOPS rb, rs, wb, mb` (30_encoding.md R101). -/
def setopsInputs (rb rs wb mb : Word) : List Input :=
  [hostWrite 0x18 rb, hostWrite 0x1C rs, hostWrite 0x20 wb, hostWrite 0x24 mb]

/-- `RUN <mnemonic>`: the command, WAIT, RD STATUS, RD RESULT (30_encoding.md R101). -/
def runInputs (word : Word) : List Input :=
  hostCommand word :: waitInputs ++ [hostRead 0x08, hostRead 0x10]

end Sys2Proof.Machine
end

