-- ==== Sys2Proof/Tests/Slice0.lean ====
section
/-! SUPPORT. The model's own tests: ill-formed instructions that WellFormed refuses, every constructor's decoding from
a word or an access written out from spec/30_encoding.md, vectors of spec/95_test_vectors.md (K, E, C, H, X, Z and
P1), and for each obligation with hypotheses a concrete case that meets them. -/

namespace Sys2Proof.Tests

open Sys2Proof Sys2Proof.Machine

/-! ## Helpers -/

/-- The outcome is a next state with this property. -/
def leads (o : Host.Outcome State Fault Refusal) (check : State → Bool) : Bool :=
  match o with
  | .next t => check t
  | .fault _ => false
  | .refused _ => false

/-- Parameters to test with: everything exists, memory below 0xF0000000, every pixel in one engine step. -/
def params : Params where
  extCap := true
  diagOvf := true
  blockBase := 0x40000000#32
  memOk := fun addr _ => decide (addr.toNat < 0xF0000000)
  powerOn := fun _ => 0#8
  drawWord := fun n => BitVec.ofNat 32 (n + 0xD0D0)
  windowByte := fun _ => 0x55#8
  batch := fun _ _ => true
  pickFail := fun n => n

/-- Operand registers set, nothing accepted yet. -/
def ready : State :=
  { State.reset with refBase := 0x1000#32, refStride := 8#32, wsrcBase := 0x2000#32, mskBase := 0x3000#32 }

/-- `OBMCSAD.8.4x4` accepted on `ready`. -/
def running : State := acceptCommand 0x00000404#32 (.op 4 4 .narrow) ready

/-- The latch of `running`. -/
def narrow4x4 : Engine :=
  ⟨4, 4, .narrow, 0x1000#32, 8#32, 0x2000#32, 0x3000#32, 0#32, List.range (4 * 4), false, none⟩

/-- The four bytes of a word, lowest address first. -/
def bytesOf (word : Word) : List Byte :=
  [word.extractLsb' 0 8, word.extractLsb' 8 8, word.extractLsb' 16 8, word.extractLsb' 24 8]

/-- Some bytes stored from an address on. -/
def putBytes : Memory → Nat → List Byte → Memory
  | m, _, [] => m
  | m, addr, b :: rest => putBytes (m.write addr b) (addr + 1) rest

/-! ## WellFormed refuses ill-formed instructions -/

/-- 30_encoding.md R94: a RESERVED_CMD row whose own bit is 0. -/
theorem test_wellFormed_refuses_bit_not_set :
    (Instr.rejectReservedBit17 0x00000404#32).wellFormed = false
      ∧ (Instr.rejectReservedBit24 0x00FE0000#32).wellFormed = false
      ∧ (Instr.rejectReservedBit31 0x7FFFFFFF#32).wellFormed = false := by decide

/-- A RESERVED_CMD row whose word has a lower reserved bit, and so is another row's (log entry 8). -/
theorem test_wellFormed_refuses_lower_bit_set :
    (Instr.rejectReservedBit18 0x00060000#32).wellFormed = false
      ∧ (Instr.rejectReservedBit31 0x80020000#32).wellFormed = false := by decide

/-- An UNSUPPORTED_SHAPE row whose word has a reserved bit. -/
theorem test_wellFormed_refuses_reserved_in_shape_row :
    (Instr.rejectUnsupportedShape 0x00021004#32).wellFormed = false := by decide

/-- An UNSUPPORTED_SHAPE row whose word is a BASE or an EXT operation. -/
theorem test_wellFormed_refuses_catalog_in_shape_row :
    (Instr.rejectUnsupportedShape 0x00010404#32).wellFormed = false
      ∧ (Instr.rejectUnsupportedShape 0x00008080#32).wellFormed = false := by decide

/-! ## Decoding -/

/-- 30_encoding.md R91, R94: one reserved bit, the other 31 bits 0. -/
theorem test_decode_reserved_low :
    decode (.command 0x00020000#32) = .ok (.rejectReservedBit17 0x00020000#32)
      ∧ decode (.command 0x00040000#32) = .ok (.rejectReservedBit18 0x00040000#32)
      ∧ decode (.command 0x00080000#32) = .ok (.rejectReservedBit19 0x00080000#32)
      ∧ decode (.command 0x00100000#32) = .ok (.rejectReservedBit20 0x00100000#32)
      ∧ decode (.command 0x00200000#32) = .ok (.rejectReservedBit21 0x00200000#32)
      ∧ decode (.command 0x00400000#32) = .ok (.rejectReservedBit22 0x00400000#32)
      ∧ decode (.command 0x00800000#32) = .ok (.rejectReservedBit23 0x00800000#32)
      ∧ decode (.command 0x01000000#32) = .ok (.rejectReservedBit24 0x01000000#32) := by decide

/-- 30_encoding.md R91, R94: one reserved bit, the other 31 bits 0. -/
theorem test_decode_reserved_high :
    decode (.command 0x02000000#32) = .ok (.rejectReservedBit25 0x02000000#32)
      ∧ decode (.command 0x04000000#32) = .ok (.rejectReservedBit26 0x04000000#32)
      ∧ decode (.command 0x08000000#32) = .ok (.rejectReservedBit27 0x08000000#32)
      ∧ decode (.command 0x10000000#32) = .ok (.rejectReservedBit28 0x10000000#32)
      ∧ decode (.command 0x20000000#32) = .ok (.rejectReservedBit29 0x20000000#32)
      ∧ decode (.command 0x40000000#32) = .ok (.rejectReservedBit30 0x40000000#32)
      ∧ decode (.command 0x80000000#32) = .ok (.rejectReservedBit31 0x80000000#32) := by decide

/-- 30_encoding.md R91, R95, the square shapes 4x4 to 64x64: bits 31:17, DEPTH, H and W in that order. -/
theorem test_decode_squares :
    decode (.command (0#15 ++ 0#1 ++ 4#8 ++ 4#8)) = .ok .obmcsad8_4x4
      ∧ decode (.command (0#15 ++ 1#1 ++ 4#8 ++ 4#8)) = .ok .obmcsad16_4x4
      ∧ decode (.command (0#15 ++ 0#1 ++ 8#8 ++ 8#8)) = .ok .obmcsad8_8x8
      ∧ decode (.command (0#15 ++ 1#1 ++ 8#8 ++ 8#8)) = .ok .obmcsad16_8x8
      ∧ decode (.command (0#15 ++ 0#1 ++ 16#8 ++ 16#8)) = .ok .obmcsad8_16x16
      ∧ decode (.command (0#15 ++ 1#1 ++ 16#8 ++ 16#8)) = .ok .obmcsad16_16x16
      ∧ decode (.command (0#15 ++ 0#1 ++ 32#8 ++ 32#8)) = .ok .obmcsad8_32x32
      ∧ decode (.command (0#15 ++ 1#1 ++ 32#8 ++ 32#8)) = .ok .obmcsad16_32x32
      ∧ decode (.command (0#15 ++ 0#1 ++ 64#8 ++ 64#8)) = .ok .obmcsad8_64x64
      ∧ decode (.command (0#15 ++ 1#1 ++ 64#8 ++ 64#8)) = .ok .obmcsad16_64x64 := by decide

/-- 30_encoding.md R91, R95, the shapes 4x8 to 32x16: bits 31:17, DEPTH, H and W in that order. -/
theorem test_decode_flat_and_tall :
    decode (.command (0#15 ++ 0#1 ++ 8#8 ++ 4#8)) = .ok .obmcsad8_4x8
      ∧ decode (.command (0#15 ++ 1#1 ++ 8#8 ++ 4#8)) = .ok .obmcsad16_4x8
      ∧ decode (.command (0#15 ++ 0#1 ++ 4#8 ++ 8#8)) = .ok .obmcsad8_8x4
      ∧ decode (.command (0#15 ++ 1#1 ++ 4#8 ++ 8#8)) = .ok .obmcsad16_8x4
      ∧ decode (.command (0#15 ++ 0#1 ++ 16#8 ++ 8#8)) = .ok .obmcsad8_8x16
      ∧ decode (.command (0#15 ++ 1#1 ++ 16#8 ++ 8#8)) = .ok .obmcsad16_8x16
      ∧ decode (.command (0#15 ++ 0#1 ++ 8#8 ++ 16#8)) = .ok .obmcsad8_16x8
      ∧ decode (.command (0#15 ++ 1#1 ++ 8#8 ++ 16#8)) = .ok .obmcsad16_16x8
      ∧ decode (.command (0#15 ++ 0#1 ++ 32#8 ++ 16#8)) = .ok .obmcsad8_16x32
      ∧ decode (.command (0#15 ++ 1#1 ++ 32#8 ++ 16#8)) = .ok .obmcsad16_16x32
      ∧ decode (.command (0#15 ++ 0#1 ++ 16#8 ++ 32#8)) = .ok .obmcsad8_32x16
      ∧ decode (.command (0#15 ++ 1#1 ++ 16#8 ++ 32#8)) = .ok .obmcsad16_32x16 := by decide

/-- 30_encoding.md R91, R95, the shapes 32x64 to 64x128: bits 31:17, DEPTH, H and W in that order. -/
theorem test_decode_large :
    decode (.command (0#15 ++ 0#1 ++ 64#8 ++ 32#8)) = .ok .obmcsad8_32x64
      ∧ decode (.command (0#15 ++ 1#1 ++ 64#8 ++ 32#8)) = .ok .obmcsad16_32x64
      ∧ decode (.command (0#15 ++ 0#1 ++ 32#8 ++ 64#8)) = .ok .obmcsad8_64x32
      ∧ decode (.command (0#15 ++ 1#1 ++ 32#8 ++ 64#8)) = .ok .obmcsad16_64x32
      ∧ decode (.command (0#15 ++ 0#1 ++ 128#8 ++ 128#8)) = .ok .obmcsad8_128x128
      ∧ decode (.command (0#15 ++ 1#1 ++ 128#8 ++ 128#8)) = .ok .obmcsad16_128x128
      ∧ decode (.command (0#15 ++ 0#1 ++ 64#8 ++ 128#8)) = .ok .obmcsad8_128x64
      ∧ decode (.command (0#15 ++ 1#1 ++ 64#8 ++ 128#8)) = .ok .obmcsad16_128x64
      ∧ decode (.command (0#15 ++ 0#1 ++ 128#8 ++ 64#8)) = .ok .obmcsad8_64x128
      ∧ decode (.command (0#15 ++ 1#1 ++ 128#8 ++ 64#8)) = .ok .obmcsad16_64x128 := by decide

/-- 30_encoding.md R98: the read at every offset of the window. -/
theorem test_decode_reads :
    decode (.access false 0x00 4 0#32) = .ok .rdCap
      ∧ decode (.access false 0x04 4 0#32) = .ok .rdCtrl
      ∧ decode (.access false 0x08 4 0#32) = .ok .rdStatus
      ∧ decode (.access false 0x0C 4 0#32) = .ok .rdCmd
      ∧ decode (.access false 0x10 4 0#32) = .ok .rdResult
      ∧ decode (.access false 0x14 4 0#32) = .ok .rdErraddr
      ∧ decode (.access false 0x18 4 0#32) = .ok .rdRefBase
      ∧ decode (.access false 0x1C 4 0#32) = .ok .rdRefStride
      ∧ decode (.access false 0x20 4 0#32) = .ok .rdWsrcBase
      ∧ decode (.access false 0x24 4 0#32) = .ok .rdMskBase
      ∧ decode (.access false 0x28 4 0#32) = .ok .rdReserved28
      ∧ decode (.access false 0x2C 4 0#32) = .ok .rdReserved2C
      ∧ decode (.access false 0x30 4 0#32) = .ok .rdReserved30
      ∧ decode (.access false 0x34 4 0#32) = .ok .rdReserved34
      ∧ decode (.access false 0x38 4 0#32) = .ok .rdReserved38
      ∧ decode (.access false 0x3C 4 0#32) = .ok .rdReserved3C := by decide

/-- 30_encoding.md R98: the write at every offset of the window. -/
theorem test_decode_writes :
    decode (.access true 0x00 4 0xA5000001#32) = .ok (.wrCap 0xA5000001#32)
      ∧ decode (.access true 0x04 4 0xA5000001#32) = .ok (.wrCtrl 0xA5000001#32)
      ∧ decode (.access true 0x08 4 0xA5000001#32) = .ok (.wrStatus 0xA5000001#32)
      ∧ decode (.access true 0x0C 4 0xA5000001#32) = .ok (.wrCmd 0xA5000001#32)
      ∧ decode (.access true 0x10 4 0xA5000001#32) = .ok (.wrResult 0xA5000001#32)
      ∧ decode (.access true 0x14 4 0xA5000001#32) = .ok (.wrErraddr 0xA5000001#32)
      ∧ decode (.access true 0x18 4 0xA5000001#32) = .ok (.wrRefBase 0xA5000001#32)
      ∧ decode (.access true 0x1C 4 0xA5000001#32) = .ok (.wrRefStride 0xA5000001#32)
      ∧ decode (.access true 0x20 4 0xA5000001#32) = .ok (.wrWsrcBase 0xA5000001#32)
      ∧ decode (.access true 0x24 4 0xA5000001#32) = .ok (.wrMskBase 0xA5000001#32)
      ∧ decode (.access true 0x28 4 0xA5000001#32) = .ok (.wrReserved28 0xA5000001#32)
      ∧ decode (.access true 0x2C 4 0xA5000001#32) = .ok (.wrReserved2C 0xA5000001#32)
      ∧ decode (.access true 0x30 4 0xA5000001#32) = .ok (.wrReserved30 0xA5000001#32)
      ∧ decode (.access true 0x34 4 0xA5000001#32) = .ok (.wrReserved34 0xA5000001#32)
      ∧ decode (.access true 0x38 4 0xA5000001#32) = .ok (.wrReserved38 0xA5000001#32)
      ∧ decode (.access true 0x3C 4 0xA5000001#32) = .ok (.wrReserved3C 0xA5000001#32) := by decide

/-- 30_encoding.md R94, vectors E6 to E18: the rows of words that are no operation. -/
theorem test_decode_rejected_words :
    decode (.command 0x00000000#32) = .ok (.rejectUnsupportedShape 0x00000000#32)
      ∧ decode (.command 0x00010000#32) = .ok (.rejectUnsupportedShape 0x00010000#32)
      ∧ decode (.command 0x00001004#32) = .ok (.rejectUnsupportedShape 0x00001004#32)
      ∧ decode (.command 0x0000FFFF#32) = .ok (.rejectUnsupportedShape 0x0000FFFF#32)
      ∧ decode (.command 0x00002080#32) = .ok (.rejectUnsupportedShape 0x00002080#32)
      ∧ decode (.command 0x00030404#32) = .ok (.rejectReservedBit17 0x00030404#32)
      ∧ decode (.command 0xFFFFFFFF#32) = .ok (.rejectReservedBit17 0xFFFFFFFF#32)
      ∧ decode (.command 0xC0000404#32) = .ok (.rejectReservedBit30 0xC0000404#32) := by decide

/-- 42_host_access.md R212: what the access format leaves out. -/
theorem test_decode_refuses_out_of_format :
    decode (.access false 0x08 2 0#32) = .error .accessSize
      ∧ decode (.access true 0x0A 4 0#32) = .error .accessUnaligned
      ∧ decode (.access false 0x40 4 0#32) = .error .accessOutsideWindow := by decide

/-- The opcode table's own bits: a 32-bit row, a 24-bit word with bit 17, MMIO keys, a byte that is no key. -/
theorem test_decodeTableWord :
    decodeTableWord 32 0x00018040 = some .obmcsad16_64x128
      ∧ decodeTableWord 24 0x00020000 = some (.rejectReservedBit17 0x00020000#32)
      ∧ decodeTableWord 8 0x08 = some .rdStatus
      ∧ decodeTableWord 8 0x4C = some (.wrCmd 0#32)
      ∧ decodeTableWord 8 0x80 = none := by decide

/-- The step after reset runs the placed word: `OBMCSAD.8.4x4` is accepted (vector Z3). -/
theorem test_step_runs_fetch_word :
    leads (step (State.reset.withFetchWord 32 0x404)) (fun t => t.status.busy && t.inputs.isEmpty) = true := by
  decide

/-! ## The kernel -/

/-- Vectors K1 to K15 and K28 of 95_test_vectors.md: a, m, w and the term, all in the domain. -/
theorem test_pixelTerm_small :
    [((0, 0, 0), 0), ((100, 4096, 413696), 1), ((0, 0, 2047), 0), ((0, 0, 2048), 1), ((0, 0, -2047), 0),
      ((0, 0, -2048), 1), ((0, 0, 6143), 1), ((0, 0, 6144), 2), ((100, 4096, 0), 100), ((200, 2048, 409600), 0),
      ((200, 2048, 415744), 2), ((255, 4096, 0), 255), ((255, -4096, 0), 255), ((1, 4096, 0), 1),
      ((1000, 4096, 0), 1000), ((3, -5, 7), 0)].all
        (fun (x : (Nat × Int × Int) × Nat) =>
          pixelTerm ⟨x.1.1, x.1.2.1, x.1.2.2⟩ == (x.2, true)) = true := by decide

/-- Vectors K16 to K29: the edge of the operand domain. -/
theorem test_pixelTerm_domain_edge :
    pixelTerm ⟨65535, 32767, 0⟩ = (524264, true) ∧ pixelTerm ⟨65535, -32767, 96254⟩ = (524287, true)
      ∧ pixelTerm ⟨0, 0, 2147481599⟩ = (524287, true) ∧ (pixelTerm ⟨0, 0, 2147481600⟩).2 = false
      ∧ (pixelTerm ⟨0, 0, 2147483647⟩).2 = false ∧ (pixelTerm ⟨0, 0, -2147483648⟩).2 = false
      ∧ pixelTerm ⟨65535, 32768, 0⟩ = (524280, true) ∧ pixelTerm ⟨65535, -32768, 0⟩ = (524280, true)
      ∧ (pixelTerm ⟨65535, 2147483647, 0⟩).2 = false ∧ (pixelTerm ⟨2, 1073741824, 0⟩).2 = false
      ∧ (pixelTerm ⟨1, -2147483648, 0⟩).2 = false ∧ pixelTerm ⟨0, -2147483648, 0⟩ = (0, true)
      ∧ (pixelTerm ⟨255, 32767, -2147483648⟩).2 = false := by decide

/-- Vector C7: sample addresses wrap past 0xFFFFFFFF; vector C1: stride 0 rereads row 0; wide strides count
samples. -/
theorem test_sample_addresses :
    sampleAddr { narrow4x4 with rb := 0xFFFFFFFE#32, rs := 4#32 } 2 = 0x00000000#32
      ∧ sampleAddr { narrow4x4 with rb := 0xFFFFFFFE#32, rs := 4#32 } 15 = 0x0000000D#32
      ∧ sampleAddr { narrow4x4 with rs := 0#32 } 13 = 0x1001#32
      ∧ sampleAddr { narrow4x4 with depth := .wide } 5 = 0x1012#32
      ∧ elemAddr narrow4x4 .wsrc 13 = 0x2034#32 ∧ elemAddr narrow4x4 .msk 15 = 0x303C#32 := by decide

/-- 20_memory.md R62 and 40_kernel.md R122, R123: little-endian reads; a unit 0x8000 is 32768, a weight 0xFFFFF000 is
-4096. -/
theorem test_fetch_extends :
    memRead (fun a => if a = 0x10#32 then 0x34#8 else 0x12#8) 0x10#32 2 = 0x1234
      ∧ memRead (fun a => BitVec.ofNat 8 a.toNat) 0xFFFFFFFF#32 2 = 0x00FF
      ∧ signed32 0xFFFFF000 = -4096 ∧ signed32 0x80000000 = -2147483648
      ∧ signed32 0x7FFFFFFF = 2147483647 := by decide

/-! ## Commands -/

/-- The narrow operations with CTRL.EXT_EN = 1: the shape each mnemonic names is latched and CMD holds its word
(41_catalog_dispatch.md R160 to R191, R150). -/
theorem test_narrow_operations_latch_their_shape :
    ([
      (.obmcsad8_4x4, 4, 4), (.obmcsad8_8x8, 8, 8), (.obmcsad8_16x16, 16, 16), (.obmcsad8_32x32, 32, 32),
      (.obmcsad8_64x64, 64, 64), (.obmcsad8_4x8, 4, 8), (.obmcsad8_8x4, 8, 4), (.obmcsad8_8x16, 8, 16),
      (.obmcsad8_16x8, 16, 8), (.obmcsad8_16x32, 16, 32), (.obmcsad8_32x16, 32, 16), (.obmcsad8_32x64, 32, 64),
      (.obmcsad8_64x32, 64, 32), (.obmcsad8_128x128, 128, 128), (.obmcsad8_128x64, 128, 64),
      (.obmcsad8_64x128, 64, 128)] : List (Instr × Nat × Nat)).all
      (fun x => leads (exec x.1 { ready with ctrl := ⟨true, false⟩ }) fun t =>
        t.status.busy && t.eng.w == x.2.1 && t.eng.h == x.2.2 && decide (t.eng.depth = .narrow)
          && t.cmd == BitVec.ofNat 32 (x.2.1 + 256 * x.2.2 + 0) && statusWord t.status == 1#32) = true := by
  decide

/-- The wide operations with CTRL.EXT_EN = 1: the shape each mnemonic names is latched and CMD holds its word
(41_catalog_dispatch.md R160 to R191, R150). -/
theorem test_wide_operations_latch_their_shape :
    ([
      (.obmcsad16_4x4, 4, 4), (.obmcsad16_8x8, 8, 8), (.obmcsad16_16x16, 16, 16), (.obmcsad16_32x32, 32, 32),
      (.obmcsad16_64x64, 64, 64), (.obmcsad16_4x8, 4, 8), (.obmcsad16_8x4, 8, 4), (.obmcsad16_8x16, 8, 16),
      (.obmcsad16_16x8, 16, 8), (.obmcsad16_16x32, 16, 32), (.obmcsad16_32x16, 32, 16),
      (.obmcsad16_32x64, 32, 64), (.obmcsad16_64x32, 64, 32), (.obmcsad16_128x128, 128, 128),
      (.obmcsad16_128x64, 128, 64), (.obmcsad16_64x128, 64, 128)] : List (Instr × Nat × Nat)).all
      (fun x => leads (exec x.1 { ready with ctrl := ⟨true, false⟩ }) fun t =>
        t.status.busy && t.eng.w == x.2.1 && t.eng.h == x.2.2 && decide (t.eng.depth = .wide)
          && t.cmd == BitVec.ofNat 32 (x.2.1 + 256 * x.2.2 + 65536) && statusWord t.status == 1#32) = true := by
  decide

/-- Vectors E1 to E18: the word, EXT_EN and STATUS after the CMD write. -/
theorem test_status_after_cmd_write :
    [(0x00000404#32, false, 0x001#32), (0x00010404#32, false, 0x001#32), (0x00008080#32, false, 0x106#32),
      (0x00008080#32, true, 0x001#32), (0x00018040#32, true, 0x001#32), (0x00000000#32, true, 0x106#32),
      (0x00010000#32, true, 0x106#32), (0x00001004#32, true, 0x106#32), (0x00000440#32, true, 0x106#32),
      (0x00000C0C#32, false, 0x106#32), (0x0000FFFF#32, true, 0x106#32), (0x00000402#32, false, 0x106#32),
      (0x00002080#32, true, 0x106#32), (0x00020404#32, false, 0x206#32), (0x00030404#32, true, 0x206#32),
      (0x80000000#32, false, 0x206#32), (0xFFFFFFFF#32, true, 0x206#32), (0x00021004#32, false, 0x206#32)].all
      (fun (x : Word × Bool × Word) => leads (exec (.wrCmd x.1) { ready with ctrl := ⟨x.2.1, false⟩ }) fun t =>
        statusWord t.status == x.2.2 && t.cmd == x.1) = true := by decide

/-- 60_exceptions.md R233: the RESERVED_CMD rows reject, CMD reads back the word. -/
theorem test_reserved_rows_reject :
    [Instr.rejectReservedBit17 0x00020000#32, .rejectReservedBit18 0x00040000#32, .rejectReservedBit19 0x00080000#32,
      .rejectReservedBit20 0x00100000#32, .rejectReservedBit21 0x00200000#32, .rejectReservedBit22 0x00400000#32,
      .rejectReservedBit23 0x00800000#32, .rejectReservedBit24 0x01000000#32, .rejectReservedBit25 0x02000000#32,
      .rejectReservedBit26 0x04000000#32, .rejectReservedBit27 0x08000000#32, .rejectReservedBit28 0x10000000#32,
      .rejectReservedBit29 0x20000000#32, .rejectReservedBit30 0x40000000#32, .rejectReservedBit31 0x80000000#32].all
      (fun i => leads (exec i { ready with result := 61#32 }) fun t =>
        statusWord t.status == 0x206#32 && t.errAddr == 0#32 && t.result == 61#32
          && decide (encode i = .command t.cmd)) = true := by decide

/-- Vector X4, X8: shape before alignment; RESULT keeps 61; EXT_EN = 0 rejects an EXT operation. -/
theorem test_unsupported_shape_rejects :
    leads (exec (.rejectUnsupportedShape 0x00001004#32) { ready with mskBase := 0x3001#32, result := 61#32 }) (fun t =>
        statusWord t.status == 0x106#32 && t.errAddr == 0#32 && t.result == 61#32) = true
      ∧ leads (exec .obmcsad8_128x128 { ready with result := 61#32 }) (fun t =>
        statusWord t.status == 0x106#32 && t.result == 61#32) = true := by decide

/-- Vectors X1, X2, X3 and C8: the first misaligned base is reported; a narrow REF_BASE may be odd. -/
theorem test_misaligned_bases :
    leads (exec .obmcsad16_4x4 { ready with refBase := 0x1001#32, wsrcBase := 0x2002#32 }) (fun t =>
        statusWord t.status == 0x306#32 && t.errAddr == 0x1001#32) = true
      ∧ leads (exec .obmcsad8_4x4 { ready with refBase := 0x1001#32, wsrcBase := 0x2002#32 }) (fun t =>
        statusWord t.status == 0x306#32 && t.errAddr == 0x2002#32) = true
      ∧ leads (exec .obmcsad8_4x4 { ready with mskBase := 0x3001#32 }) (fun t =>
        statusWord t.status == 0x306#32 && t.errAddr == 0x3001#32) = true
      ∧ leads (exec .obmcsad8_4x4 { ready with refBase := 0x1001#32 }) (fun t =>
        statusWord t.status == 0x001#32) = true := by decide

/-! ## Host accesses -/

/-- Vectors H1, H2: the word CAP reads as. -/
theorem test_capWord :
    capWord { params with diagOvf := false } = 1#32 ∧ capWord { params with extCap := false } = 2#32 := by decide

/-- Vectors H3, H4: CTRL's reserved bits read 0, EXT_EN is 0 where EXT_CAP = 0. -/
theorem test_ctrl_fields :
    ctrlWord (ctrlWritten params 0xFFFFFFFF#32) = 3#32
      ∧ ctrlWord (ctrlWritten { params with extCap := false } 3#32) = 2#32 := by decide

/-- Vectors H5, H6, H7 and H10: write one to clear. -/
theorem test_wrStatus_clears :
    leads (exec (.wrStatus 2#32) { ready with status := ⟨false, true, true, false, false, .unsupportedShape⟩ })
        (fun t => statusWord t.status == 0x104#32) = true
      ∧ leads (exec (.wrStatus 4#32) { ready with status := ⟨false, true, true, false, false, .unsupportedShape⟩ })
        (fun t => statusWord t.status == 0x002#32) = true
      ∧ leads (exec (.wrStatus 0#32) { ready with status := ⟨false, true, true, false, false, .unsupportedShape⟩ })
        (fun t => statusWord t.status == 0x106#32) = true
      ∧ leads (exec (.wrStatus 1#32) running) (fun t => statusWord t.status == 0x001#32) = true := by decide

/-- Vector H15: clearing ERR clears ERRADDR. -/
theorem test_wrStatus_clears_errAddr :
    leads (exec (.wrStatus 4#32)
      { ready with status := ⟨false, true, true, false, false, .misaligned⟩, errAddr := 0x3002#32 })
        (fun t => t.errAddr == 0#32) = true := by decide

/-- Vectors H8, H9, H11, H12: writes while a command is in flight. -/
theorem test_busy_writes :
    leads (exec (.wrRefBase 0x9000#32) running)
        (fun t => t.refBase == 0x1000#32 && statusWord t.status == 0x011#32) = true
      ∧ leads (exec (.wrCmd 0x808#32) running)
        (fun t => t.cmd == 0x404#32 && statusWord t.status == 0x011#32 && decide (t.eng = running.eng)) = true
      ∧ leads (exec (.wrResult 0x12345678#32) running)
        (fun t => t.result == 0#32 && statusWord t.status == 0x001#32) = true
      ∧ leads (exec (.wrReserved28 0xFFFFFFFF#32) running) (fun t => decide (t = running)) = true := by decide

/-- 42_host_access.md R205 to R208 and vector H16: each operand register stores its data. -/
theorem test_operand_writes :
    leads (exec (.wrRefBase 0x00010001#32) ready) (fun t => t.refBase == 0x00010001#32) = true
      ∧ leads (exec (.wrRefStride 16#32) ready) (fun t => t.refStride == 16#32) = true
      ∧ leads (exec (.wrWsrcBase 0x2002#32) ready) (fun t => t.wsrcBase == 0x2002#32) = true
      ∧ leads (exec (.wrMskBase 0x3004#32) ready) (fun t => t.mskBase == 0x3004#32) = true := by decide

/-- 42_host_access.md R200: each read returns its own register. -/
theorem test_reads_return_registers :
    let s : State := { ready with
      ctrl := ⟨false, true⟩, status := ⟨false, true, false, true, true, .none⟩, cmd := 0x404#32
      result := 61#32, errAddr := 7#32 }
    [(Instr.rdCtrl, 2#32), (.rdStatus, 0x01A#32), (.rdCmd, 0x404#32), (.rdResult, 61#32), (.rdErraddr, 7#32),
      (.rdRefBase, 0x1000#32), (.rdRefStride, 8#32), (.rdWsrcBase, 0x2000#32), (.rdMskBase, 0x3000#32),
      (.rdReserved28, 0#32), (.rdReserved2C, 0#32), (.rdReserved30, 0#32), (.rdReserved34, 0#32),
      (.rdReserved38, 0#32), (.rdReserved3C, 0#32)].all
      (fun x => leads (exec x.1 s) fun t => t.readData == x.2) = true := by decide

/-! ## The engine's turns -/

/-- P1's `msk` words, `wsrc` words and samples (95_test_vectors.md section 8). -/
def p1Memory : Memory :=
  putBytes (putBytes (putBytes (putBytes (putBytes (putBytes []
    0x3000 ((List.range 4).flatMap fun _ => [0x1000#32, 0x800#32, 0x400#32, 0xC00#32].flatMap bytesOf))
    0x2000 ([0x0#32, 0xFFF#32, 0x1000#32, 0x1C00#32, 0xB7FF#32, 0x7000#32, 0x1800#32, 0xAC00#32, 0x2C6A0#32,
      0xFFFF2160#32, 0x5800#32, 0x11401#32, 0x1DFFF#32, 0x10001#32, 0x77FF#32, 0x1BC00#32].flatMap bytesOf))
    0x1018 [0x1E#8, 0x1F#8, 0x20#8, 0x21#8]) 0x1010 [0x14#8, 0x15#8, 0x16#8, 0x17#8])
    0x1008 [0x0A#8, 0x0B#8, 0x0C#8, 0x0D#8]) 0x1000 [0#8, 1#8, 2#8, 3#8]

/-- P1, all 16 pixels in one engine step: the sum is 61 and nothing is pending (vector S4). -/
theorem test_p1_engine_step :
    (engineTurn params { running with mem := p1Memory }).eng.acc = 61#32
      ∧ (engineTurn params { running with mem := p1Memory }).eng.pend = [] := by decide +kernel

/-- Completion writes RESULT, DONE and no OVF (vector C11). -/
theorem test_completion :
    let s := engineTurn params { running with eng := { running.eng with pend := [], acc := 61#32 } }
    s.result = 61#32 ∧ statusWord s.status = 0x002#32 := by decide

/-- Vectors C10, P5: `wsrc[0]` = 0x80000000 puts pixel 0 out of the domain; OVF follows DIAG_OVF. -/
theorem test_out_of_domain :
    (engineTurn params { running with mem := [(0x2003, 0x80#8)] }).eng.ood = true
      ∧ statusWord (completeOk params { running with eng := { running.eng with ood := true } }).status = 0x00A#32
      ∧ statusWord (completeOk { params with diagOvf := false }
          { running with eng := { running.eng with ood := true } }).status = 0x002#32 := by decide +kernel

/-- Vector X6: a failing read is recorded, and the command then ends with BUS_ERROR, RESULT as before. -/
theorem test_bus_error :
    (engineTurn params { running with eng := { running.eng with wb := 0xF0000000#32 } }).eng.berr = some 0xF0000000#32
      ∧ (let s := engineTurn params
          { running with result := 61#32, eng := { running.eng with berr := some 0xF0000004#32 } }
        statusWord s.status = 0x406#32 ∧ s.errAddr = 0xF0000004#32 ∧ s.result = 61#32) := by decide +kernel

/-- Vector Z2: reset abandons a command in flight. -/
theorem test_reset_input :
    leads (step { running with result := 61#32, mem := [(5, 9#8)], inputs := [.reset] }) (fun t =>
      statusWord t.status == 0#32 && t.result == 0#32 && t.eng.pend.isEmpty && decide (t.mem = [(5, 9#8)])) = true := by
  decide

/-- Storing bytes keeps the list of memory strictly rising (20_memory.md R60). -/
theorem test_memory_write_is_canonical :
    putBytes [(5, 1#8)] 4 [7#8, 8#8, 9#8] = [(4, 7#8), (5, 8#8), (6, 9#8)] := by decide

/-- 30_encoding.md R100, R101: WAIT ends on DONE without BUSY and reads again while BUSY. -/
theorem test_wait :
    leads (step { running with inputs := waitInputs }) (fun t =>
        decide (t.inputs = .engine :: waitInputs)) = true
      ∧ leads (step { ready with status := ⟨false, true, false, false, true, .none⟩, inputs := waitInputs }) (fun t =>
        t.inputs.isEmpty && t.readData == 0x012#32) = true := by decide

/-! ## A case that meets each obligation's hypotheses -/

/-- The idle engine with WIGN, DONE and a result of before. -/
def idle : State :=
  { ready with status := ⟨false, true, false, false, true, .none⟩, result := 61#32, cmd := 0x808#32 }

/-- DecodeInvertsEncode: well-formed rejection rows at the ends of their ranges. -/
theorem test_witness_wellFormed :
    (Instr.rejectReservedBit17 0xFFFFFFFF#32).wellFormed = true
      ∧ (Instr.rejectReservedBit31 0x80000000#32).wellFormed = true
      ∧ (Instr.rejectUnsupportedShape 0x0001FFFF#32).wellFormed = true := by decide

/-- StepRunsDecodedInstruction, CommandWordIsCmdWrite. -/
theorem test_witness_request :
    { idle with inputs := [.request (.access true 0x3C 4 1#32), .engine] : State }.inputs
        = .request (.access true 0x3C 4 1#32) :: [.engine]
      ∧ decode (.access true 0x3C 4 1#32) = .ok (.wrReserved3C 1#32) := by decide

/-- OutOfFormatAccessIsRefused: a case of each clause next to the format's edge. -/
theorem test_witness_out_of_format :
    decode (.access false 0x40 3 0#32) = .error .accessSize
      ∧ decode (.access false 0x3F 4 0#32) = .error .accessUnaligned
      ∧ decode (.access false 0x40 4 0#32) = .error .accessOutsideWindow
      ∧ { idle with inputs := [.request (.access false 0x40 3 0#32)] : State }.inputs
          = .request (.access false 0x40 3 0#32) :: [] := by decide

/-- StepGivesTheEngineItsTurn: both clauses. -/
theorem test_witness_engine_inputs :
    running.inputs = [] ∧ { running with inputs := [.engine, .reset] : State }.inputs = .engine :: [.reset] := by
  decide

/-- PollReadsUntilMatch: a poll that ends and one that goes on. -/
theorem test_witness_poll :
    { idle with inputs := [.poll 0x08 3#32 2#32] : State }.inputs = .poll 0x08 3#32 2#32 :: []
      ∧ decode (.access false 0x08 4 0#32) = .ok .rdStatus
      ∧ leads (exec .rdStatus { idle with inputs := [] }) (fun t => t.readData &&& 3#32 == 2#32) = true
      ∧ leads (exec .rdStatus running) (fun t => t.readData &&& 3#32 != 2#32) = true := by decide

/-- ResetInputResetsTheEngine. -/
theorem test_witness_reset_input :
    { running with inputs := [.reset, .engine] : State }.inputs = .reset :: [.engine] := by decide

/-- 00_scope.md R9: a load returns the byte stored, zero-extended; it does not reach the window or missing memory. -/
theorem test_load :
    leads (hostLoad params 0x2003#32 { running with mem := [(0x2003, 0x80#8)] }) (fun t =>
        t.readData == 0x80#32 && decide (t.eng = running.eng)) = true
      ∧ leads (hostLoad params 0x40000000#32 running) (fun _ => true) = false
      ∧ leads (hostLoad params 0xF0000000#32 running) (fun _ => true) = false := by decide

/-- HostStoreWritesOneByte, HostLoadReturnsMemory: the last byte below the failing addresses, with no footprint
watched, and outside the watched one. -/
theorem test_witness_store :
    inWindow params 0xEFFFFFFF#32 = false ∧ holdsMemory params 0xEFFFFFFF#32 = true
      ∧ idle.watch ≠ .stable ∧ running.watch = .stable ∧ inFootprint running.eng 0xEFFFFFFF#32 = false
      ∧ { idle with inputs := [.load 0#32, .reset] : State }.inputs = .load 0#32 :: [.reset]
      ∧ { idle with inputs := [.store 0#32 1#8] : State }.inputs = .store 0#32 1#8 :: [] := by decide +kernel

/-- BaseCommandsAreAccepted: a narrow command with an odd REF_BASE, a wide one with an even REF_BASE. -/
theorem test_witness_base_commands :
    (.obmcsad8_4x4, 4, 4, .narrow) ∈ baseOperations ∧ (.obmcsad16_64x32, 64, 32, .wide) ∈ baseOperations
      ∧ idle.status.busy = false ∧ (Depth.narrow = .wide → (0x1001#32).toNat % 2 = 0)
      ∧ (Depth.wide = .wide → idle.refBase.toNat % 2 = 0) ∧ idle.wsrcBase.toNat % 4 = 0
      ∧ idle.mskBase.toNat % 4 = 0 := by decide

/-- ExtCommandsAreAcceptedWhenEnabled and ExtCommandsAreRejectedWhenDisabled. -/
theorem test_witness_ext_commands :
    (.obmcsad16_64x128, 64, 128, .wide) ∈ extOperations
      ∧ { idle with ctrl := ⟨true, false⟩ : State }.ctrl.extEn = true
      ∧ { idle with ctrl := ⟨true, false⟩ : State }.status.busy = false
      ∧ (Depth.wide = .wide → idle.refBase.toNat % 2 = 0) ∧ idle.wsrcBase.toNat % 4 = 0
      ∧ idle.mskBase.toNat % 4 = 0 ∧ idle.ctrl.extEn = false := by decide

/-- Every base misaligned; only MSK_BASE misaligned, with EXT_EN = 1. -/
def allMisaligned : State := { idle with refBase := 0x1001#32, wsrcBase := 0x2001#32, mskBase := 0x3003#32 }
def lastMisaligned : State := { idle with mskBase := 0x3003#32, ctrl := ⟨true, false⟩ }

/-- MisalignedBaseIsReportedInOrder: each clause, the first two with the later bases misaligned too. -/
theorem test_witness_misaligned :
    allMisaligned.status.busy = false
      ∧ (.obmcsad16_4x4, 4, 4, .wide) ∈ baseOperations ++ extOperations
      ∧ ¬ (.obmcsad16_4x4, 4, 4, .wide) ∈ extOperations ∧ allMisaligned.refBase.toNat % 2 = 1
      ∧ (.obmcsad8_4x4, 4, 4, .narrow) ∈ baseOperations ++ extOperations
      ∧ ¬ (.obmcsad8_4x4, 4, 4, .narrow) ∈ extOperations ∧ allMisaligned.wsrcBase.toNat % 4 ≠ 0
      ∧ lastMisaligned.status.busy = false
      ∧ (.obmcsad16_128x64, 128, 64, .wide) ∈ baseOperations ++ extOperations
      ∧ lastMisaligned.ctrl.extEn = true ∧ lastMisaligned.refBase.toNat % 2 = 0
      ∧ lastMisaligned.wsrcBase.toNat % 4 = 0 ∧ lastMisaligned.mskBase.toNat % 4 ≠ 0 := by decide

/-- RejectedWordsEndWithTheirError, WriteCmdAcceptsOrRejects, WriteCtrlSetsItsFields, OperandWritesStoreTheData: an
idle engine; a row. -/
theorem test_witness_idle_writes :
    idle.status.busy = false ∧ Instr.rejectReservedBit31 ∈ reservedRejections := by
  exact ⟨by decide, by simp [reservedRejections]⟩

/-- BusyWritesAreIgnoredAndSetWign: a busy engine. -/
theorem test_witness_busy : running.status.busy = true ∧ running.status.wign = false := by decide

/-- InstructionsKeepMemoryAndResult, CommandInFlightCannotBeDisturbed: a busy engine that an instruction runs on;
OnlyAnOperationWordStartsTheEngine, IrqFollowsDoneAndEnable: an idle one that an instruction starts, a DONE bit
that a write clears, and a command word rejected at acceptance. -/
theorem test_witness_exec :
    leads (exec (.wrStatus 0xFFFFFFFF#32) running) (fun _ => running.status.busy) = true
      ∧ leads (exec .obmcsad8_4x4 idle) (fun t => !idle.status.busy && t.status.busy) = true
      ∧ leads (exec (.wrStatus 2#32) idle) (fun _ => idle.status.done) = true
      ∧ leads (exec (.rejectReservedBit17 0x20000#32) idle) (fun t => !idle.status.busy && !t.status.busy) = true
      ∧ encode (.rejectReservedBit17 0x20000#32) = .command 0x20000#32
      ∧ (2#32).getLsbD 1 = true := by decide

/-- IrqFollowsDoneAndEnable: an engine turn that completes. -/
theorem test_witness_completing_turn :
    running.status.busy = true
      ∧ (engineTurn params { running with eng := { running.eng with pend := [] } }).status.busy = false := by decide

/-- ElementAddresses: the last pixel of the block. -/
theorem test_witness_element : (3 : Nat) < narrow4x4.w ∧ 15 = 3 * narrow4x4.w + 3 := by decide

/-- AlignedBasesGiveAlignedElements: a wide command at the top of the address space. -/
theorem test_witness_aligned :
    { narrow4x4 with depth := .wide, rb := 0xFFFFFFFE#32, wb := 0xFFFFFFFC#32 : Engine }.aligned :=
  ⟨fun _ => by decide, by decide, by decide⟩

/-- FetchExtendsSamplesAndWeights: both depths. -/
theorem test_witness_depths :
    narrow4x4.depth = .narrow ∧ { narrow4x4 with depth := .wide : Engine }.depth = .wide := by decide

/-- FifteenBitWeightsAreInDomain: the largest sample and weights. -/
theorem test_witness_fifteen_bits :
    (⟨65535, -32767, 32767⟩ : PixelOperands).a ≤ 65535 ∧ |(-32767 : Int)| < 2 ^ 15 ∧ |(32767 : Int)| < 2 ^ 15 := by
  decide

/-- KernelSumWrapsModulo32Bits: a block in the domain. -/
theorem test_witness_in_domain :
    (kernel (fun _ _ _ => 1#8) narrow4x4).2 = false ∧ narrow4x4.w * narrow4x4.h ≤ 8192 := by decide +kernel

/-- AccumulationIgnoresOrder: another order. -/
theorem test_witness_order : [0, 1, 2].Perm [2, 0, 1] := by decide

/-- NarrowAndWideAgreeOnEqualSamples: samples of 200 as bytes and as 16-bit units. -/
theorem test_witness_equal_samples :
    narrow4x4.depth = .narrow ∧ { narrow4x4 with depth := .wide : Engine }.depth = .wide
      ∧ ∀ n, n < 16 →
        memRead (fun _ => 200#8) (elemAddr narrow4x4 .sample n) 1
          = memRead (fun a => if a.getLsbD 0 then 0#8 else 200#8)
              (elemAddr { narrow4x4 with depth := .wide } .sample n) 2 := by
  decide

/-- EqualPredictionGivesZero: samples 1, weights 5 and weighted sources 5. -/
theorem test_witness_equal_prediction :
    ∀ n, n < narrow4x4.w * narrow4x4.h →
      (fetchPixel (fun elem addr => match elem with
          | .sample => 1#8
          | _ => if addr.extractLsb' 0 2 = 0#2 then 5#8 else 0#8) narrow4x4 n) = ⟨1, 5, 5⟩ := by decide

/-- KernelReadsOnlyTheFootprint: two sources that differ outside pixel 0's sample only. -/
theorem test_witness_footprint :
    (fun addr => if elemHolds narrow4x4 .sample 0 addr then 7#8 else 1#8) 0x1000#32 = 7#8
      ∧ (fun addr => if elemHolds narrow4x4 .sample 0 addr then 7#8 else 1#8) 0x1001#32 = 1#8 := by decide

/-- EngineStepTakesSomePendingPixels, CompletionWritesResult, BusErrorCompletionKeepsResult: an engine in each of the
three. -/
theorem test_witness_turns :
    running.status.busy = true ∧ running.eng.berr = none ∧ running.eng.pend ≠ []
      ∧ { running.eng with pend := [] : Engine }.pend = []
      ∧ { running.eng with berr := some 0xF0000000#32 : Engine }.berr = some 0xF0000000#32 := by decide

/-- EngineTurnFrame: a turn that changes RESULT, an idle engine. -/
theorem test_witness_result_changes :
    (engineTurn params { running with eng := { running.eng with pend := [], acc := 61#32 } }).result ≠ running.result
      ∧ idle.status.busy = false := by decide

/-- CommandAlwaysCompletes: the least number of turns for 16 pending pixels. -/
theorem test_witness_turn_count : running.eng.pend.length + 1 ≤ 17 := by decide

theorem running_justAccepted : JustAccepted running := ⟨rfl, rfl, rfl, rfl, rfl⟩

theorem narrow4x4_readable : FootprintReadable params narrow4x4 := by
  intro n hn elem
  cases elem <;> revert n <;> decide

theorem narrow4x4_outside : FootprintOutsideWindow params narrow4x4 := by
  intro addr h
  obtain ⟨n, hn, he⟩ := List.any_eq_true.1 h
  obtain ⟨elem, -, hh⟩ := List.any_eq_true.1 he
  have hn' : n < 16 := List.mem_range.1 hn
  have hj : (addr - elemAddr narrow4x4 elem n).toNat < 4 :=
    Nat.lt_of_lt_of_le (of_decide_eq_true hh) (by cases elem <;> decide)
  have ha : addr = elemAddr narrow4x4 elem n + BitVec.ofNat 32 (addr - elemAddr narrow4x4 elem n).toNat := by
    rw [BitVec.ofNat_toNat, BitVec.setWidth_eq, BitVec.add_comm, BitVec.sub_add_cancel]
  rw [ha]
  generalize (addr - elemAddr narrow4x4 elem n).toNat = j at hj
  clear ha hh he hn h addr
  cases elem <;> revert j <;> revert n <;> decide

/-- EngineComputesTheKernel, BatchingIsNotObservable: a just accepted command over a readable footprint outside the
window, in the domain, and one (vector C10) outside it. -/
theorem test_witness_engine_computes :
    JustAccepted running ∧ running.watch = .stable ∧ FootprintReadable params running.eng
      ∧ FootprintOutsideWindow params running.eng ∧ (kernelOf params running).2 = false
      ∧ (kernelOf params { running with mem := [(0x2003, 0x80#8)] }).2 = true
      ∧ running.eng.w * running.eng.h + 1 ≤ 17 :=
  ⟨running_justAccepted, rfl, narrow4x4_readable, narrow4x4_outside, by decide +kernel, by decide +kernel, by decide⟩

/-- OperationRunsToItsResult: `OBMCSAD.8.4x4` on the idle engine. -/
theorem test_witness_operation_runs :
    (.obmcsad8_4x4, 4, 4, .narrow) ∈ baseOperations ++ extOperations
      ∧ ¬ (.obmcsad8_4x4, 4, 4, .narrow) ∈ extOperations
      ∧ idle.status.busy = false ∧ idle.wsrcBase.toNat % 4 = 0 ∧ idle.mskBase.toNat % 4 = 0
      ∧ narrow4x4 = ⟨4, 4, .narrow, idle.refBase, idle.refStride, idle.wsrcBase, idle.mskBase, 0#32,
          List.range (4 * 4), false, none⟩
      ∧ FootprintReadable params narrow4x4 ∧ FootprintOutsideWindow params narrow4x4
      ∧ (kernel (snapshot params idle.mem) narrow4x4).2 = false :=
  ⟨by decide, by decide, by decide, by decide, by decide, by decide, narrow4x4_readable, narrow4x4_outside,
    by decide +kernel⟩

/-- UnreadableFootprintEndsInBusError: vector X6's weighted sources. -/
theorem test_witness_unreadable :
    JustAccepted { running with eng := { running.eng with wb := 0xF0000000#32 } }
      ∧ ¬ FootprintReadable params { running.eng with wb := 0xF0000000#32 } :=
  ⟨⟨rfl, rfl, rfl, rfl, rfl⟩, fun h => absurd (h 0 (by decide) .wsrc) (by decide)⟩

/-- FootprintWriteMakesResultFree: the last byte of `wsrc[13]` while all pixels are pending. -/
theorem test_witness_footprint_write :
    running.status.busy = true ∧ running.watch = .stable ∧ running.eng.berr = none
      ∧ (∀ n ∈ running.eng.pend, n < running.eng.w * running.eng.h)
      ∧ inFootprint running.eng 0x2037#32 = true ∧ FootprintReadable params running.eng :=
  ⟨by decide, by decide, by decide, by decide, by decide +kernel, narrow4x4_readable⟩

/-- UnobservedResultIsFreeAfterFootprintWrite: the same byte after completion, before a STATUS read. -/
theorem test_witness_unobserved :
    { running with status := ⟨false, true, false, false, false, .none⟩ : State }.status.busy = false
      ∧ running.watch = .stable ∧ inFootprint running.eng 0x2037#32 = true :=
  ⟨by decide, by decide, by decide +kernel⟩

/-- BusReadsMemoryOrTheWindow: the window's last byte and the byte after it. -/
theorem test_witness_window :
    (0x4000003F#32 - params.blockBase).toNat < 64 ∧ 64 ≤ (0x40000040#32 - params.blockBase).toNat := by decide

/-- StepKeepsTheInvariant: a command in flight, whatever the platform's parameters. -/
theorem test_witness_invariant :
    Inv platform { running with inputs := [.engine] }
      ∧ ∃ t, step { running with inputs := [.engine] } = .next t :=
  ⟨⟨by decide, fun _ => rfl, fun _ => rfl, by decide, fun _ => rfl, fun _ => rfl, fun _ => ⟨rfl, rfl, rfl⟩,
      fun h => absurd h (by decide), fun _ => by decide,
      fun _ => ⟨fun h => absurd h (by decide), by decide, by decide⟩, List.pairwise_lt_range,
      fun _ hn => List.mem_range.1 hn, fun _ h => absurd h (by decide)⟩,
    _, rfl⟩

end Sys2Proof.Tests
end

section
/-! SUPPORT. The loads and stores of the host where memory is and outside the register window (00_scope.md R9,
20_memory.md R60): what each is there, and what memory answers after a store. -/

namespace Sys2Proof.Machine

/-- Where memory is and outside the window, a load of the host is the byte load. -/
theorem hostLoad_of_holdsMemory {p : Params} {addr : Word} (hw : inWindow p addr = false)
    (hm : holdsMemory p addr = true) (s : State) : hostLoad p addr s = .next (loadByte p addr s) := by
  rcases hostLoad_cases p addr s with ⟨hw', -⟩ | ⟨-, -, h⟩ | ⟨-, hm', -⟩
  · simp [hw] at hw'
  · exact h
  · simp [hm] at hm'

/-- Where memory is and outside the window, a store of the host is the byte store. -/
theorem hostStore_of_holdsMemory {p : Params} {addr : Word} (hw : inWindow p addr = false)
    (hm : holdsMemory p addr = true) (byte : Byte) (s : State) :
    hostStore p addr byte s = .next (storeByte p addr byte s) := by
  rcases hostStore_cases p addr byte s with ⟨hw', -⟩ | ⟨-, -, h⟩ | ⟨-, hm', -⟩
  · simp [hw] at hw'
  · exact h
  · simp [hm] at hm'

/-- A byte load returns memory's byte zero-extended, written as its number in a word, and changes nothing else. -/
theorem loadByte_eq_ofNat (p : Params) (addr : Word) (s : State) :
    loadByte p addr s = { s with readData := BitVec.ofNat 32 (memByte p s.mem addr).toNat } := by
  rw [loadByte_eq, ← BitVec.ofNat_toNat]
  rfl

/-- The byte written last is the byte memory holds, whatever it held at power-on. -/
@[simp] theorem memByte_write_same (p : Params) (m : Memory) (addr : Word) (byte : Byte) :
    memByte p (m.write addr.toNat byte) addr = byte := by
  simp [memByte]

/-- A byte store reaches memory at once, inside a watched footprint too (log entry 15). -/
@[simp] theorem memByte_storeByte_same (p : Params) (addr : Word) (byte : Byte) (s : State) :
    memByte p (storeByte p addr byte s).mem addr = byte := by
  rw [storeByte_mem, memByte_write_same]

/-- Settles O60: the load is the byte load, which reads back what a byte store wrote; the step takes the input off
the list and runs it. -/
theorem hostLoadReturnsMemory : Obligations.HostLoadReturnsMemory := by
  unfold Obligations.HostLoadReturnsMemory
  refine ⟨fun p s addr hw hm => ⟨?load, fun byte => ⟨storeByte p addr byte s, ?store, ?reload⟩⟩,
    fun s rest addr => ⟨fun h => step_cons h, fun byte h => step_cons h⟩⟩
  case load => rw [hostLoad_of_holdsMemory hw hm, loadByte_eq_ofNat]
  case store => exact hostStore_of_holdsMemory hw hm byte s
  case reload => rw [hostLoad_of_holdsMemory hw hm, loadByte_eq_ofNat, memByte_storeByte_same]

end Sys2Proof.Machine
end

section
/-! SUPPORT. The words CAP, CTRL and STATUS read as, bit by bit (10_state.md R23, R24, R27). -/

namespace Sys2Proof.Machine

/-- A flag appended below a word is its bit 0 and moves every other bit up by one. -/
theorem getLsbD_append_ofBool {n : Nat} (x : BitVec n) (b : Bool) (i : Nat) :
    (x ++ BitVec.ofBool b).getLsbD i = if i = 0 then b else x.getLsbD (i - 1) := by
  rw [BitVec.getLsbD_append]
  cases i <;> simp [-BitVec.getLsbD_eq_getElem]

/-- Two flags below thirty reserved bits: the layout of CAP and of CTRL. -/
theorem getLsbD_twoFlags (b₁ b₀ : Bool) (i : Nat) :
    (0#30 ++ BitVec.ofBool b₁ ++ BitVec.ofBool b₀).getLsbD i =
      if i = 0 then b₀ else if i = 1 then b₁ else false := by
  match i with
  | 0 => exact getLsbD_append_ofBool _ b₀ 0
  | 1 => exact (getLsbD_append_ofBool _ b₀ 1).trans (getLsbD_append_ofBool _ b₁ 0)
  | i + 2 => simp [getLsbD_append_ofBool]

/-- STATUS above its five flags: three reserved bits, the error code, twenty reserved bits. -/
theorem getLsbD_statusHigh (code : BitVec 4) (i : Nat) :
    (0#20 ++ code ++ 0#3).getLsbD i = if 3 ≤ i ∧ i ≤ 6 then code.getLsbD (i - 3) else false := by
  rw [BitVec.getLsbD_append, BitVec.getLsbD_append]
  by_cases hlow : i < 3
  · simp [hlow, show ¬ 3 ≤ i by omega]
  · by_cases hcode : i - 3 < 4
    · simp [hlow, hcode, show 3 ≤ i by omega, show i ≤ 6 by omega]
    · simp [hlow, hcode, show ¬ i ≤ 6 by omega]

/-- Settles O22: the five flags one by one, then the error code among the reserved bits. -/
theorem statusWordBits : Obligations.StatusWordBits := by
  unfold Obligations.StatusWordBits
  intro st i _
  unfold statusWord
  simp only [getLsbD_append_ofBool, getLsbD_statusHigh]
  match i with
  | 0 | 1 | 2 | 3 | 4 => rfl
  | i + 5 =>
    have hshift : i + 5 - 8 = i - 3 := by omega
    by_cases hcode : 3 ≤ i ∧ i ≤ 6
    · simp only [Nat.reduceEqDiff, Nat.reduceLeDiff, Nat.add_eq_zero_iff, OfNat.ofNat_ne_zero, and_false,
        ↓reduceIte, Nat.add_one_sub_one, one_ne_zero, add_tsub_cancel_right, hcode, and_self, hshift]
      cases st.errCode <;> rfl
    · simp [hcode]

/-- Settles O23: both words are two flags below reserved bits. -/
theorem capAndCtrlWordBits : Obligations.CapAndCtrlWordBits := by
  unfold Obligations.CapAndCtrlWordBits
  exact ⟨fun p i _ => getLsbD_twoFlags p.diagOvf p.extCap i, fun c i _ => getLsbD_twoFlags c.irqEn c.extEn i⟩

end Sys2Proof.Machine
end

section
/-! SUPPORT. How instructions act on BUSY: what is left of them on a busy engine, and which of them start an
idle one. -/

namespace Sys2Proof.Machine

/-- What an instruction can still do while a command is in flight: be ignored, clear STATUS bits, read, or nothing
(42_host_access.md R200, R201, R203). -/
theorem Effect.of_busy {s t : State} (h : Effect s t) (hb : s.status.busy = true) :
    t = ignoreWrite s
      ∨ (∃ data : Word, t = { s with
          status := statusCleared data s.status
          errAddr := if data.getLsbD 2 then 0#32 else s.errAddr })
      ∨ (∃ data, t = returnData data s) ∨ t = s := by
  cases h with
  | command | ctrl | refBase | refStride | wsrcBase | mskBase => exact .inl (guardedWrite_busy hb)
  | status data => exact .inr (.inl ⟨data, rfl⟩)
  | read data => exact .inr (.inr (.inl ⟨data, rfl⟩))
  | readStatus => exact .inr (.inr (.inl ⟨statusWord s.status, by simp [observeStatus, hb]⟩))
  | nothing => exact .inr (.inr (.inr rfl))

/-- A guarded write keeps BUSY where the write it guards does. -/
theorem guardedWrite_keeps_busy {write : State → State} {s : State}
    (h : (write s).status.busy = s.status.busy) : (guardedWrite write s).status.busy = s.status.busy := by
  rcases guardedWrite_cases write s with ⟨-, hg⟩ | ⟨-, hg⟩ <;> simp [hg, h]

/-- An idle engine becomes busy by the latch of a decoded operation only (41_catalog_dispatch.md R150). -/
theorem Effect.latched {s t : State} (h : Effect s t) (hs : s.status.busy = false) (ht : t.status.busy = true) :
    ∃ word w h d, decodeCommand word s.ctrl.extEn = .op w h d
      ∧ t = latchCommand w h d (beginAcceptance word s) := by
  cases h with
  | command word dec hdec =>
    rw [writeCommand_idle hs] at ht ⊢
    rcases acceptCommand_cases word dec s with ⟨_, -, ha⟩ | ⟨_, _, _, _, -, -, ha⟩ | ⟨w, h, d, rfl, -, ha⟩
    · simp [ha] at ht
    · simp [ha] at ht
    · rcases hdec with hdec | ⟨_, hrej, -⟩
      · exact ⟨word, w, h, d, hdec.symm, ha⟩
      · cases hrej
  | ctrl | refBase | refStride | wsrcBase | mskBase =>
    rw [guardedWrite_keeps_busy rfl, hs] at ht
    cases ht
  | status | read | nothing => exact absurd (hs.symm.trans ht) (by decide)
  | readStatus =>
    rw [observeStatus_eq] at ht
    exact absurd (hs.symm.trans ht) (by decide)

/-- The instruction is the host's write of this word to CMD, in either request form (30_encoding.md R99). -/
def WritesCommand (i : Instr) (word : Word) : Prop := encode i = .command word ∨ i = .wrCmd word

/-- Every instruction either writes a word to CMD, or keeps BUSY. -/
theorem exec_writesCommand_or_keeps_busy (i : Instr) (s : State) :
    (∃ word dec, WritesCommand i word ∧ exec i s = .next (writeCommand word dec s))
      ∨ ((¬ ∃ word, WritesCommand i word) ∧ ∃ t, exec i s = .next t ∧ t.status.busy = s.status.busy) := by
  cases i with
  | rejectReservedBit17 | rejectReservedBit18 | rejectReservedBit19 | rejectReservedBit20 | rejectReservedBit21
  | rejectReservedBit22 | rejectReservedBit23 | rejectReservedBit24 | rejectReservedBit25 | rejectReservedBit26
  | rejectReservedBit27 | rejectReservedBit28 | rejectReservedBit29 | rejectReservedBit30 | rejectReservedBit31
  | obmcsad8_4x4 | obmcsad16_4x4 | obmcsad8_8x8 | obmcsad16_8x8 | obmcsad8_16x16 | obmcsad16_16x16
  | obmcsad8_32x32 | obmcsad16_32x32 | obmcsad8_64x64 | obmcsad16_64x64 | obmcsad8_4x8 | obmcsad16_4x8
  | obmcsad8_8x4 | obmcsad16_8x4 | obmcsad8_8x16 | obmcsad16_8x16 | obmcsad8_16x8 | obmcsad16_16x8
  | obmcsad8_16x32 | obmcsad16_16x32 | obmcsad8_32x16 | obmcsad16_32x16 | obmcsad8_32x64 | obmcsad16_32x64
  | obmcsad8_64x32 | obmcsad16_64x32 | obmcsad8_128x128 | obmcsad16_128x128 | obmcsad8_128x64
  | obmcsad16_128x64 | obmcsad8_64x128 | obmcsad16_64x128 | rejectUnsupportedShape =>
    exact .inl ⟨_, _, .inl rfl, rfl⟩
  | wrCmd word => exact .inl ⟨word, _, .inr rfl, rfl⟩
  | rdCap | rdCtrl | rdCmd | rdResult | rdErraddr | rdRefBase | rdRefStride | rdWsrcBase | rdMskBase
  | rdReserved28 | rdReserved2C | rdReserved30 | rdReserved34 | rdReserved38 | rdReserved3C
  | wrCap | wrStatus | wrResult | wrErraddr
  | wrReserved28 | wrReserved2C | wrReserved30 | wrReserved34 | wrReserved38 | wrReserved3C =>
    exact .inr ⟨by simp [WritesCommand, encode], _, rfl, rfl⟩
  | rdStatus => exact .inr ⟨by simp [WritesCommand, encode], _, rfl, by rw [observeStatus_eq]; rfl⟩
  | wrCtrl | wrRefBase | wrRefStride | wrWsrcBase | wrMskBase =>
    exact .inr ⟨by simp [WritesCommand, encode], _, rfl, guardedWrite_keeps_busy rfl⟩

/-- The write of a command word, on an idle engine, is its acceptance (42_host_access.md R204). -/
theorem acceptCommand_of_writesCommand {i : Instr} {s t : State} (hi : ∃ word, WritesCommand i word)
    (hs : s.status.busy = false) (h : exec i s = .next t) :
    ∃ word dec, t = acceptCommand word dec s := by
  rcases exec_writesCommand_or_keeps_busy i s with ⟨word, dec, -, he⟩ | ⟨hno, -⟩
  · rw [h, writeCommand_idle hs] at he
    cases he
    exact ⟨word, dec, rfl⟩
  · exact absurd hi hno

/-- What makes an idle engine busy is a write of the word CMD then holds. -/
theorem writesCommand_of_starts {i : Instr} {s t : State} (hs : s.status.busy = false) (h : exec i s = .next t)
    (ht : t.status.busy = true) : WritesCommand i t.cmd := by
  rcases exec_writesCommand_or_keeps_busy i s with ⟨word, dec, hi, he⟩ | ⟨-, t', he, hkeep⟩
  · rw [h, writeCommand_idle hs] at he
    cases he
    obtain ⟨-, -, -, -, -, -, -, -, -, -, hcmd⟩ := acceptCommand_frame word dec s
    rwa [hcmd]
  · rw [h] at he
    cases he
    rw [hkeep, hs] at ht
    cases ht

/-- Settles O31: on a busy engine an instruction is ignored, clears STATUS bits, reads, or does nothing. -/
theorem commandInFlightCannotBeDisturbed : Obligations.CommandInFlightCannotBeDisturbed := by
  unfold Obligations.CommandInFlightCannotBeDisturbed
  intro i s t hb h
  rcases (effect_of_exec h).of_busy hb with rfl | ⟨data, rfl⟩ | ⟨data, rfl⟩ | rfl <;>
    exact ⟨hb, rfl, rfl, rfl, rfl, rfl, rfl, rfl⟩

/-- Settles O32: BUSY rises by the latch only, and the word latched is the one the instruction writes. -/
theorem onlyAnOperationWordStartsTheEngine : Obligations.OnlyAnOperationWordStartsTheEngine := by
  unfold Obligations.OnlyAnOperationWordStartsTheEngine
  intro i s t hs h ht
  have hi := writesCommand_of_starts hs h ht
  obtain ⟨word, width, height, d, hdec, rfl⟩ := (effect_of_exec h).latched hs ht
  exact ⟨word, width, height, d, hi, hdec, rfl, rfl, rfl, rfl⟩

end Sys2Proof.Machine
end

section
/-! SUPPORT. The IRQ output (10_state.md R46, 60_exceptions.md R242). -/

namespace Sys2Proof.Machine

theorem irq_of_done {s : State} (h : s.status.done = true) : s.irq = s.ctrl.irqEn := by simp [State.irq, h]

theorem irq_of_not_done {s : State} (h : s.status.done = false) : s.irq = false := by simp [State.irq, h]

/-- An engine step leaves STATUS to the completions (41_catalog_dispatch.md R151). -/
theorem engineStep_status (p : Params) (s : State) : (engineStep p s).status = s.status := by
  rcases engineStep_cases p s with ⟨_, -, h⟩ | ⟨-, h⟩ <;> simp [h]

/-- A turn that ends a command sets DONE and keeps CTRL (41_catalog_dispatch.md R152, R153). -/
theorem engineTurn_completes {p : Params} {s : State} (hs : s.status.busy = true)
    (ht : (engineTurn p s).status.busy = false) :
    (engineTurn p s).status.done = true ∧ (engineTurn p s).ctrl = s.ctrl := by
  rcases engineTurn_cases p s with ⟨hidle, -⟩ | ⟨-, _, -, h⟩ | ⟨-, -, -, h⟩ | ⟨-, -, -, h⟩
  · simp [hs] at hidle
  · simp [h]
  · simp [h]
  · simp [h, engineStep_status, hs] at ht

/-- An acceptance that leaves the engine idle has raised an error, which sets DONE (60_exceptions.md R230). -/
theorem acceptCommand_rejects {word : Word} {dec : Decoded} {s : State}
    (h : (acceptCommand word dec s).status.busy = false) :
    (acceptCommand word dec s).status.done = true ∧ (acceptCommand word dec s).ctrl = s.ctrl := by
  rcases acceptCommand_cases word dec s with ⟨_, -, ha⟩ | ⟨_, _, _, _, -, -, ha⟩ | ⟨_, _, _, -, -, ha⟩
  · simp [ha]
  · simp [ha]
  · simp [ha] at h

/-- Settles O57: every way a command ends sets DONE; clearing DONE and the latch leave it 0. -/
theorem irqFollowsDoneAndEnable : Obligations.IrqFollowsDoneAndEnable := by
  unfold Obligations.IrqFollowsDoneAndEnable
  refine ⟨fun _ => rfl, rfl, fun p s hs ht => ?turn, fun i s t hi hs h ht => ?rejected,
    fun s t data hdata h => ?cleared, fun i s t hs h ht => ?accepted⟩
  case turn =>
    obtain ⟨hdone, hctrl⟩ := engineTurn_completes hs ht
    rw [irq_of_done hdone, hctrl]
  case rejected =>
    obtain ⟨word, dec, rfl⟩ := acceptCommand_of_writesCommand hi hs h
    obtain ⟨hdone, hctrl⟩ := acceptCommand_rejects ht
    exact ⟨hdone, by rw [irq_of_done hdone, hctrl]⟩
  case cleared =>
    cases h
    exact irq_of_not_done (by simp [statusCleared, hdata])
  case accepted =>
    obtain ⟨_, _, _, _, -, rfl⟩ := (effect_of_exec h).latched hs ht
    exact irq_of_not_done rfl

end Sys2Proof.Machine
end

section
/-! SUPPORT. The invariant, kept by each operation of the model, by each instruction and input, and so by each
step. -/

namespace Sys2Proof.Machine

section Operations

variable {p : Params} {s : State}

theorem ignoreWrite_keeps_inv (h : Inv p s) : Inv p (ignoreWrite s) := { h with }

theorem returnData_keeps_inv (h : Inv p s) (data : Word) : Inv p (returnData data s) := { h with }

theorem withInputs_keeps_inv (h : Inv p s) (inputs : List Input) : Inv p { s with inputs := inputs } := { h with }

/-- The watch ends at a STATUS read of an idle engine only. -/
theorem observeStatus_keeps_inv (h : Inv p s) : Inv p (observeStatus s) := by
  rw [observeStatus_eq]
  exact { h with watched := fun hb => by simpa [show s.status.busy = true from hb] using h.watched hb }

/-- Clearing ERR clears ERRCODE and ERRADDR with it (42_host_access.md R203). -/
theorem statusCleared_keeps_inv (h : Inv p s) (data : Word) :
    Inv p { s with
      status := statusCleared data s.status
      errAddr := if data.getLsbD 2 then 0#32 else s.errAddr } :=
  { h with
    ovfHardwired := fun hp => by simp [statusCleared, h.ovfHardwired hp]
    errCode := by
      simp only [statusCleared]
      cases data.getLsbD 2
      · simpa using h.errCode
      · simp
    errAddr := by
      simp only [statusCleared]
      cases data.getLsbD 2
      · simpa using h.errAddr
      · simp
    ovfNoError := fun hovf => by
      have hset : s.status.ovf = true := (Bool.and_eq_true_iff.1 hovf).1
      simp [statusCleared, h.ovfNoError hset]
    busyClear := fun hb => by
      obtain ⟨hdone, herr, hovf⟩ := h.busyClear hb
      simp [statusCleared, hdone, herr, hovf] }

theorem beginAcceptance_keeps_inv (h : Inv p s) (word : Word) : Inv p (beginAcceptance word s) :=
  { h with
    ovfHardwired := fun _ => rfl
    errCode := by simp
    errAddr := fun _ => rfl
    ovfNoError := fun _ => rfl
    busyClear := fun _ => ⟨rfl, rfl, rfl⟩ }

/-- An error with a code, raised while OVF is 0 (60_exceptions.md R230, R236). -/
theorem raiseError_keeps_inv (h : Inv p s) {code : ErrCode} (hcode : code ≠ .none) (hovf : s.status.ovf = false)
    (addr : Word) : Inv p (raiseError code addr s) where
  memory := h.memory
  extHardwired := h.extHardwired
  ovfHardwired := h.ovfHardwired
  errCode := by simp [hcode]
  errAddr := by simp
  ovfNoError := by simp [hovf]
  busyClear := by simp
  idle := fun _ => rfl
  shape := by simp
  aligned := by simp
  pendSorted := List.Pairwise.nil
  pendBound := by simp
  watched := by simp

/-- The latch of a catalog shape with aligned bases, once STATUS is cleared (41_catalog_dispatch.md R150). -/
theorem latchCommand_keeps_inv (hinv : Inv p s) {w h : Nat} {d : Depth}
    (hclear : s.status.done = false ∧ s.status.err = false ∧ s.status.ovf = false)
    (hshape : (w, h) ∈ baseShapes ++ extShapes) (halign : misalignedBase d s = none) :
    Inv p (latchCommand w h d s) where
  memory := hinv.memory
  extHardwired := hinv.extHardwired
  ovfHardwired := hinv.ovfHardwired
  errCode := hinv.errCode
  errAddr := hinv.errAddr
  ovfNoError := hinv.ovfNoError
  busyClear := fun _ => hclear
  idle := by simp
  shape := fun _ => hshape
  aligned := fun _ => misalignedBase_none.1 halign
  pendSorted := List.pairwise_lt_range
  pendBound := fun _ hn => List.mem_range.1 hn
  watched := by simp

/-- Decode makes operations of catalog shapes only (30_encoding.md R93, R94). -/
theorem decodeCommand_op_shape {word : Word} {ext : Bool} {w h : Nat} {d : Depth}
    (hdec : decodeCommand word ext = .op w h d) : (w, h) ∈ baseShapes ++ extShapes := by
  unfold decodeCommand at hdec
  split at hdec
  · cases hdec
  · split at hdec
    next hbase =>
      cases hdec
      exact List.mem_append_left _ hbase
    next =>
      split at hdec
      next hext =>
        cases hdec
        exact List.mem_append_right _ hext.1
      next => cases hdec

theorem acceptCommand_keeps_inv (hinv : Inv p s) (word : Word) {dec : Decoded}
    (hdec : dec = decodeCommand word s.ctrl.extEn ∨ ∃ code, dec = .reject code ∧ code ≠ .none) :
    Inv p (acceptCommand word dec s) := by
  have hbegin := beginAcceptance_keeps_inv hinv word
  rcases acceptCommand_cases word dec s with
    ⟨code, rfl, ha⟩ | ⟨_, _, _, base, -, -, ha⟩ | ⟨w, h, d, rfl, hm, ha⟩
  · have hcode : code ≠ .none := by
      rcases hdec with hdec | ⟨_, hrej, hne⟩
      · exact decodeCommand_reject hdec.symm
      · cases hrej
        exact hne
    exact ha ▸ raiseError_keeps_inv hbegin hcode rfl _
  · exact ha ▸ raiseError_keeps_inv hbegin (by decide) rfl base
  · have hshape : (w, h) ∈ baseShapes ++ extShapes := by
      rcases hdec with hdec | ⟨_, hrej, -⟩
      · exact decodeCommand_op_shape hdec.symm
      · cases hrej
    exact ha ▸ latchCommand_keeps_inv hbegin ⟨rfl, rfl, rfl⟩ hshape hm

/-- A guarded write keeps the invariant where the write it guards does. -/
theorem guardedWrite_keeps_inv {write : State → State} (h : Inv p s) (hw : Inv p (write s)) :
    Inv p (guardedWrite write s) := by
  rcases guardedWrite_cases write s with ⟨-, hg⟩ | ⟨-, hg⟩
  · exact hg ▸ ignoreWrite_keeps_inv h
  · exact hg ▸ hw

theorem completeOk_keeps_inv (h : Inv p s) (hb : s.status.busy = true) (hpend : s.eng.pend = []) :
    Inv p (completeOk p s) :=
  { h with
    ovfHardwired := fun hp => by simp [hp]
    ovfNoError := fun _ => (h.busyClear hb).2.1
    busyClear := by simp
    idle := fun _ => hpend
    shape := by simp
    aligned := by simp
    watched := by simp }

theorem completeBusError_keeps_inv (h : Inv p s) (hb : s.status.busy = true) (addr : Word) :
    Inv p (completeBusError addr s) :=
  { raiseError_keeps_inv h (code := .busError) (by decide) (h.busyClear hb).2.2 addr with watched := by simp }

/-- What an engine step leaves pending is a part of what was, in the same order. -/
theorem accumulateBatch_keeps_inv (h : Inv p s) : Inv p (accumulateBatch p s) :=
  { h with
    idle := fun hb => by simp [h.idle hb]
    pendSorted := h.pendSorted.filter _
    pendBound := fun n hn => h.pendBound n (List.mem_filter.1 hn).1 }

theorem engineStep_keeps_inv (h : Inv p s) : Inv p (engineStep p s) := by
  rcases engineStep_cases p s with ⟨addr, -, he⟩ | ⟨-, he⟩
  · rw [he]
    exact { h with }
  · exact he ▸ accumulateBatch_keeps_inv h

theorem engineTurn_keeps_inv (h : Inv p s) : Inv p (engineTurn p s) := by
  rcases engineTurn_cases p s with ⟨-, he⟩ | ⟨hb, addr, -, he⟩ | ⟨hb, -, hpend, he⟩ | ⟨-, -, -, he⟩
  · rwa [he]
  · exact he ▸ completeBusError_keeps_inv h hb addr
  · exact he ▸ completeOk_keeps_inv h hb hpend
  · exact he ▸ engineStep_keeps_inv h

/-- A byte store writes memory and may mark the watch as written; it never ends the watch. -/
theorem storeByte_keeps_inv (h : Inv p s) (addr : Word) (byte : Byte) : Inv p (storeByte p addr byte s) := by
  have hmem := Memory.wf_write byte h.memory addr.isLt
  rcases storeByte_cases p addr byte s with ⟨-, he⟩ | ⟨-, -, -, he⟩ | ⟨-, -, -, he⟩
  · exact he ▸ { h with memory := hmem }
  · exact he ▸ { h with memory := hmem, watched := fun _ => nofun }
  · exact he ▸ { h with memory := hmem, watched := fun _ => nofun }

/-- Reset meets every clause by its own values, and leaves memory as it was. -/
theorem engineReset_keeps_inv (h : Inv p s) : Inv p (engineReset s) where
  memory := h.memory
  extHardwired := fun _ => rfl
  ovfHardwired := fun _ => rfl
  errCode := iff_of_true rfl rfl
  errAddr := fun _ => rfl
  ovfNoError := fun _ => rfl
  busyClear := fun _ => ⟨rfl, rfl, rfl⟩
  idle := fun _ => rfl
  shape := nofun
  aligned := nofun
  pendSorted := List.Pairwise.nil
  pendBound := nofun
  watched := nofun

theorem pollAgain_keeps_inv (h : Inv p s) (offset : Nat) (mask value : Word) :
    Inv p (pollAgain offset mask value s) := by
  unfold pollAgain
  split
  · exact h
  · exact withInputs_keeps_inv h _

end Operations

/-- EXT_EN is written 0 where EXT_CAP = 0 (10_state.md R25). -/
theorem ctrlWritten_keeps_inv {p : Params} {s : State} (h : Inv p s) (data : Word) :
    Inv p { s with ctrl := ctrlWritten p data } :=
  { h with extHardwired := fun hp => by simp [ctrlWritten, hp] }

theorem Effect.keeps_inv {s t : State} (he : Effect s t) (h : Inv platform s) : Inv platform t := by
  cases he with
  | command word dec hdec => exact guardedWrite_keeps_inv h (acceptCommand_keeps_inv h word hdec)
  | ctrl data => exact guardedWrite_keeps_inv h (ctrlWritten_keeps_inv h data)
  | status data => exact statusCleared_keeps_inv h data
  | refBase | refStride | wsrcBase | mskBase => exact guardedWrite_keeps_inv h { h with }
  | read data => exact returnData_keeps_inv h data
  | readStatus => exact observeStatus_keeps_inv (returnData_keeps_inv h _)
  | nothing => exact h

theorem runRequest_keeps_inv {r : Request} {s t : State} (h : Inv platform s) (hr : runRequest r s = .next t) :
    Inv platform t := by
  unfold runRequest at hr
  split at hr
  · exact (effect_of_exec hr).keeps_inv h
  · cases hr

theorem runPoll_keeps_inv {offset : Nat} {mask value : Word} {s t : State} (h : Inv platform s)
    (hr : runPoll offset mask value s = .next t) : Inv platform t := by
  unfold runPoll at hr
  split at hr
  next s' hread =>
    cases hr
    exact pollAgain_keeps_inv (runRequest_keeps_inv h hread) offset mask value
  next => cases hr
  next => cases hr

theorem hostStore_keeps_inv {p : Params} {addr : Word} {byte : Byte} {s t : State} (h : Inv p s)
    (hr : hostStore p addr byte s = .next t) : Inv p t := by
  rcases hostStore_cases p addr byte s with ⟨-, he⟩ | ⟨-, -, he⟩ | ⟨-, -, he⟩ <;> rw [he] at hr <;> cases hr
  exact storeByte_keeps_inv h addr byte

theorem hostLoad_keeps_inv {p : Params} {addr : Word} {s t : State} (h : Inv p s)
    (hr : hostLoad p addr s = .next t) : Inv p t := by
  rcases hostLoad_cases p addr s with ⟨-, he⟩ | ⟨-, -, he⟩ | ⟨-, -, he⟩ <;> rw [he] at hr <;> cases hr
  exact returnData_keeps_inv h _

theorem runInput_keeps_inv {input : Input} {s t : State} (h : Inv platform s) (hr : runInput input s = .next t) :
    Inv platform t := by
  cases input with
  | request r => exact runRequest_keeps_inv h hr
  | poll offset mask value => exact runPoll_keeps_inv h hr
  | store addr byte => exact hostStore_keeps_inv h hr
  | load addr => exact hostLoad_keeps_inv h hr
  | reset =>
    cases hr
    exact engineReset_keeps_inv h
  | engine =>
    cases hr
    exact engineTurn_keeps_inv h

/-- Settles O59: a step is an input taken off the list, or the engine's turn. -/
theorem stepKeepsTheInvariant : Obligations.StepKeepsTheInvariant := by
  unfold Obligations.StepKeepsTheInvariant
  intro s t h hstep
  cases hinputs : s.inputs with
  | nil =>
    simp only [step, hinputs] at hstep
    cases hstep
    exact engineTurn_keeps_inv h
  | cons input rest =>
    rw [step_cons hinputs] at hstep
    exact runInput_keeps_inv (withInputs_keeps_inv h rest) hstep

end Sys2Proof.Machine
end

section
/-! SUPPORT. The bytes the bus returns and what a host store does to memory and to RESULT (20_memory.md R60, R70,
R72, R75). -/

namespace Sys2Proof.Machine

theorem inWindow_eq_true {p : Params} {addr : Word} :
    inWindow p addr = true ↔ (addr - p.blockBase).toNat < 64 := decide_eq_true_iff

/-- Inside the engine's own window a bus read is a free value of that read (20_memory.md R72). -/
theorem busByte_window {p : Params} {addr : Word} (h : inWindow p addr = true) (m : Memory) (turn pixel : Nat)
    (elem : Elem) : busByte p m turn pixel elem addr = p.windowByte ⟨turn, pixel, elem, addr⟩ := by
  simp only [busByte, h, if_true]

/-- Outside the window every bus read is memory's byte (20_memory.md R70). -/
theorem busByte_memory {p : Params} {addr : Word} (h : inWindow p addr = false) (m : Memory) (turn pixel : Nat)
    (elem : Elem) : busByte p m turn pixel elem addr = memByte p m addr := by
  simp [busByte, h]

/-- Settles O56: the window test decides which of the two the bus returns, and memory holds the byte last stored. -/
theorem busReadsMemoryOrTheWindow : Obligations.BusReadsMemoryOrTheWindow := by
  unfold Obligations.BusReadsMemoryOrTheWindow
  refine fun p m turn pixel elem addr byte => ⟨fun h => ?window, fun h => ?memory⟩
  case window => exact busByte_window (inWindow_eq_true.2 h) m turn pixel elem
  case memory =>
    have hw : inWindow p addr = false := decide_eq_false (by omega)
    rw [busByte_memory hw, memByte_write_same]

/-- A byte stored outside a watched footprint changes memory alone (20_memory.md R75). -/
theorem storeByte_undisturbed {p : Params} {addr : Word} {byte : Byte} {s : State}
    (h : s.watch ≠ .stable ∨ inFootprint s.eng addr = false) :
    storeByte p addr byte s = { s with mem := s.mem.write addr.toNat byte } := by
  rcases storeByte_cases p addr byte s with ⟨-, he⟩ | ⟨hf, hw, -⟩ | ⟨hf, hw, -⟩
  · exact he
  · simp [hf, hw] at h
  · simp [hf, hw] at h

/-- A footprint byte stored in flight marks the watch, and RESULT waits for the completion (20_memory.md R75). -/
theorem storeByte_inFlight {p : Params} {addr : Word} {byte : Byte} {s : State} (hb : s.status.busy = true)
    (hw : s.watch = .stable) (hf : inFootprint s.eng addr = true) :
    storeByte p addr byte s = { s with watch := .written, mem := s.mem.write addr.toNat byte } := by
  rcases storeByte_cases p addr byte s with ⟨h, -⟩ | ⟨-, -, -, he⟩ | ⟨-, -, hidle, -⟩
  · simp [hf, hw] at h
  · exact he
  · simp [hb] at hidle

/-- A footprint byte stored after the completion and before its observation draws RESULT at once (log entry 6). -/
theorem storeByte_unobserved {p : Params} {addr : Word} {byte : Byte} {s : State} (hb : s.status.busy = false)
    (hw : s.watch = .stable) (hf : inFootprint s.eng addr = true) :
    storeByte p addr byte s =
      { s with
        watch := .written, result := p.drawWord s.draws, draws := s.draws + 1
        mem := s.mem.write addr.toNat byte } := by
  rcases storeByte_cases p addr byte s with ⟨h, -⟩ | ⟨-, -, hbusy, -⟩ | ⟨-, -, -, he⟩
  · simp [hf, hw] at h
  · simp [hb] at hbusy
  · exact he

/-- Settles O13: where memory is, the store is the byte store, which writes one byte of the list and, undisturbed,
nothing else. -/
theorem hostStoreWritesOneByte : Obligations.HostStoreWritesOneByte := by
  unfold Obligations.HostStoreWritesOneByte
  refine fun p s addr byte hw hm => ⟨storeByte p addr byte s, hostStore_of_holdsMemory hw hm byte s, ?written,
    fun a ha => ?others, fun h => ?frame⟩
  case written => rw [storeByte_mem, Memory.read_write_same]
  case others => rw [storeByte_mem, Memory.read_write_other s.mem byte ha]
  case frame => rw [storeByte_undisturbed h]

/-- Settles O55: on an idle engine a store into the watched footprint draws RESULT and leaves STATUS. -/
theorem unobservedResultIsFreeAfterFootprintWrite : Obligations.UnobservedResultIsFreeAfterFootprintWrite := by
  unfold Obligations.UnobservedResultIsFreeAfterFootprintWrite
  intro p s addr byte hb hw hf
  rw [storeByte_unobserved hb hw hf]
  exact ⟨rfl, rfl⟩

end Sys2Proof.Machine
end

section
/-! SUPPORT. Element reads: their value, their addresses and alignment, and the bytes the kernel depends on
(20_memory.md R62 to R66). -/

namespace Sys2Proof.Machine

theorem memRead_one (byte : Word → Byte) (a : Word) : memRead byte a 1 = (byte a).toNat := by
  simp [memRead]

theorem memRead_two (byte : Word → Byte) (a : Word) :
    memRead byte a 2 = (byte a).toNat + 256 * (byte (a + 1#32)).toNat := by
  rw [memRead, memRead_one]
  norm_num

theorem memRead_four (byte : Word → Byte) (a : Word) :
    memRead byte a 4 = (byte a).toNat + 256 * (byte (a + 1#32)).toNat
      + 65536 * (byte (a + 2#32)).toNat + 16777216 * (byte (a + 3#32)).toNat := by
  rw [memRead, memRead, memRead_two]
  norm_num

/-- Settles O33: each width adds its bytes, in place, above the narrower read. -/
theorem readsAreLittleEndian : Obligations.ReadsAreLittleEndian := by
  unfold Obligations.ReadsAreLittleEndian
  exact fun byte a => ⟨memRead_one byte a, memRead_two byte a, memRead_four byte a⟩

theorem elemAddr_sample_toNat (e : Engine) (n : Nat) :
    (elemAddr e .sample n).toNat =
      (e.rb.toNat + sampleSize e.depth * (n / e.w * e.rs.toNat + n % e.w)) % 4294967296 := BitVec.toNat_ofNat _ _

theorem elemAddr_msk_toNat (e : Engine) (n : Nat) :
    (elemAddr e .msk n).toNat = (e.mb.toNat + 4 * n) % 4294967296 := BitVec.toNat_ofNat _ _

theorem elemAddr_wsrc_toNat (e : Engine) (n : Nat) :
    (elemAddr e .wsrc n).toNat = (e.wb.toNat + 4 * n) % 4294967296 := BitVec.toNat_ofNat _ _

theorem sampleSize_eq (d : Depth) : sampleSize d = if d = .wide then 2 else 1 := by cases d <;> rfl

/-- Settles O34: the raster index of row `r`, column `c` is split by division by W. -/
theorem elementAddresses : Obligations.ElementAddresses := by
  unfold Obligations.ElementAddresses
  rintro e r c n hc rfl
  have hw : 0 < e.w := by omega
  have hrow : (r * e.w + c) / e.w = r := by
    rw [Nat.mul_comm, Nat.mul_add_div hw, Nat.div_eq_of_lt hc, Nat.add_zero]
  have hcol : (r * e.w + c) % e.w = c := Nat.mul_add_mod_of_lt hc
  refine ⟨?sample, elemAddr_wsrc_toNat e _, elemAddr_msk_toNat e _⟩
  rw [elemAddr_sample_toNat, hrow, hcol, sampleSize_eq]

/-- Settles O35: the element's size divides 2^32 and the distance from the base, so only the base counts. -/
theorem alignedBasesGiveAlignedElements : Obligations.AlignedBasesGiveAlignedElements := by
  unfold Obligations.AlignedBasesGiveAlignedElements
  rintro e ⟨hrb, hwb, hmb⟩ elem n
  cases elem with
  | sample =>
    rw [elemAddr_sample_toNat]
    cases hd : e.depth with
    | narrow => exact Nat.mod_one _
    | wide =>
      have heven := hrb hd
      simp only [elemSize, sampleSize]
      omega
  | msk =>
    rw [elemAddr_msk_toNat, elemSize]
    omega
  | wsrc =>
    rw [elemAddr_wsrc_toNat, elemSize]
    omega

/-- A pixel's term depends on the bytes of its elements only. -/
theorem termOf_congr {byte byte' : Nat → Elem → Word → Byte} {e : Engine} {n : Nat}
    (h : ∀ elem addr, elemHolds e elem n addr = true → byte n elem addr = byte' n elem addr) :
    termOf byte e n = termOf byte' e n := congrArg pixelTerm (fetchPixel_congr h)

/-- The kernel depends on the terms of the block's pixels only. -/
theorem kernel_congr {byte byte' : Nat → Elem → Word → Byte} {e : Engine}
    (h : ∀ n, n < e.w * e.h → termOf byte e n = termOf byte' e n) : kernel byte e = kernel byte' e := by
  have hterms : ∀ n ∈ List.range (e.w * e.h), termOf byte e n = termOf byte' e n :=
    fun n hn => h n (List.mem_range.1 hn)
  simp only [kernel, accumulate_congr hterms, anyOutside_congr hterms]

/-- Settles O44: the kernel sees the block's terms, and a term its own elements' bytes. -/
theorem kernelReadsOnlyTheFootprint : Obligations.KernelReadsOnlyTheFootprint := by
  unfold Obligations.KernelReadsOnlyTheFootprint
  exact fun byte byte' e h => kernel_congr fun n hn => termOf_congr (h n hn)

end Sys2Proof.Machine
end

section
/-! SUPPORT. What instructions and engine turns leave unchanged (20_memory.md R61, 10_state.md R35, R41). -/

namespace Sys2Proof.Machine

/-- No effect of an instruction reaches memory, RESULT, the list of inputs or the draw counter. -/
theorem Effect.frame {s t : State} (h : Effect s t) :
    t.mem = s.mem ∧ t.result = s.result ∧ t.inputs = s.inputs ∧ t.draws = s.draws := by
  cases h with
  | command word dec =>
    obtain ⟨hmem, hresult, -, -, -, -, -, hinputs, -, hdraws, -⟩ := acceptCommand_frame word dec s
    rcases guardedWrite_cases (acceptCommand word dec) s with ⟨-, hg⟩ | ⟨-, hg⟩
    · simp [writeCommand, hg]
    · simp [writeCommand, hg, hmem, hresult, hinputs, hdraws]
  | ctrl | refBase | refStride | wsrcBase | mskBase =>
    rcases guardedWrite_cases _ s with ⟨-, hg⟩ | ⟨-, hg⟩ <;> rw [hg] <;> exact ⟨rfl, rfl, rfl, rfl⟩
  | readStatus =>
    rw [observeStatus_eq]
    exact ⟨rfl, rfl, rfl, rfl⟩
  | status | read | nothing => exact ⟨rfl, rfl, rfl, rfl⟩

/-- Settles O30: every instruction is one of the effects. -/
theorem instructionsKeepMemoryAndResult : Obligations.InstructionsKeepMemoryAndResult := by
  unfold Obligations.InstructionsKeepMemoryAndResult
  intro i s t h
  obtain ⟨hmem, hresult, hinputs, hdraws⟩ := (effect_of_exec h).frame
  exact ⟨fun a => by rw [hmem], hresult, hinputs, hdraws⟩

/-- The fields an engine turn can write: STATUS but WIGN, RESULT, ERRADDR, the four items of the engine that are not
latched operands, and the model's watch and draw counter. -/
theorem engineTurn_writes (p : Params) (s : State) :
    ∃ status result errAddr acc pend ood berr watch draws,
      status.wign = s.status.wign
        ∧ engineTurn p s =
          { s with
            status := status, result := result, errAddr := errAddr
            eng := { s.eng with acc := acc, pend := pend, ood := ood, berr := berr }
            watch := watch, draws := draws } := by
  rcases engineTurn_cases p s with ⟨-, h⟩ | ⟨-, addr, -, h⟩ | ⟨-, -, -, h⟩ | ⟨-, -, -, h⟩
  · exact ⟨_, _, _, _, _, _, _, _, _, rfl, h⟩
  · exact ⟨_, _, _, _, _, _, _, _, _, statusOnError_wign .busError s.status, h⟩
  · exact ⟨_, _, _, _, _, _, _, _, _, statusOnCompletion_wign p s.eng.ood s.status, h⟩
  · rcases engineStep_cases p s with ⟨addr, -, he⟩ | ⟨-, he⟩
    · exact ⟨_, _, _, _, _, _, _, _, _, rfl, h.trans he⟩
    · exact ⟨_, _, _, _, _, _, _, _, _, rfl, h.trans he⟩

/-- RESULT is written by the completion without error alone (10_state.md R35). -/
theorem engineTurn_result (p : Params) (s : State) :
    (engineTurn p s).result = s.result ∨ (s.status.busy = true ∧ engineTurn p s = completeOk p s) := by
  rcases engineTurn_cases p s with ⟨-, h⟩ | ⟨-, addr, -, h⟩ | ⟨hb, -, -, h⟩ | ⟨-, -, -, h⟩
  · exact .inl (by rw [h])
  · exact .inl (by rw [h, completeBusError_result])
  · exact .inr ⟨hb, h⟩
  · rcases engineStep_cases p s with ⟨addr, -, he⟩ | ⟨-, he⟩
    · exact .inl (by rw [h, he, recordBusError_result])
    · exact .inl (by rw [h, he, accumulateBatch_result])

/-- An idle engine's turn changes nothing. -/
theorem engineTurn_idle {p : Params} {s : State} (h : s.status.busy = false) : engineTurn p s = s :=
  runEngine_idle p 1 h

/-- Settles O48: the frame is read off the fields a turn can write; RESULT and the idle engine have their own
lemmas. -/
theorem engineTurnFrame : Obligations.EngineTurnFrame := by
  unfold Obligations.EngineTurnFrame
  intro p s
  have hresult : (engineTurn p s).result ≠ s.result →
      s.status.busy = true ∧ (engineTurn p s).status.busy = false ∧ (engineTurn p s).status.done = true := by
    intro hne
    rcases engineTurn_result p s with hkeep | ⟨hb, h⟩
    · exact absurd hkeep hne
    · simp [h, hb]
  have hidle : s.status.busy = false → engineTurn p s = s := engineTurn_idle
  obtain ⟨_, _, _, _, _, _, _, _, _, hwign, h⟩ := engineTurn_writes p s
  rw [h] at hresult hidle ⊢
  exact ⟨fun _ => rfl, rfl, rfl, rfl, rfl, rfl, rfl, rfl, rfl, hwign, rfl, rfl, rfl, rfl, rfl, rfl, rfl, hresult,
    hidle⟩

end Sys2Proof.Machine
end

section
/-! SUPPORT. A command in flight whose reads all succeed runs to its completion without error
(41_catalog_dispatch.md R151, R152). -/

namespace Sys2Proof.Machine

/-- A command in flight, no failing read recorded, that will meet none: PEND holds pixels of the block, and the
block's element reads succeed. -/
structure RunsWithoutError (p : Params) (s : State) : Prop where
  busy : s.status.busy = true
  berr : s.eng.berr = none
  pendBound : ∀ n ∈ s.eng.pend, n < s.eng.w * s.eng.h
  readable : FootprintReadable p s.eng

/-- No chosen pixel has a failing read. -/
theorem RunsWithoutError.failingReads_eq_nil {p : Params} {s : State} (h : RunsWithoutError p s) :
    failingReads p s.eng (chosenPixels p s) = [] := by
  refine List.eq_nil_iff_forall_not_mem.2 fun addr haddr => ?_
  obtain ⟨n, hn, elem, hfail, -⟩ := mem_failingReads.1 haddr
  have hok := h.readable n (h.pendBound n (mem_chosenPixels.1 hn).1) elem
  simp [hfail] at hok

/-- Its turn completes it when no pixel is left, and otherwise accumulates a batch. -/
theorem RunsWithoutError.turn_cases {p : Params} {s : State} (h : RunsWithoutError p s) :
    (s.eng.pend = [] ∧ engineTurn p s = completeOk p s)
      ∨ (s.eng.pend ≠ [] ∧ engineTurn p s = accumulateBatch p s) := by
  rcases engineTurn_cases p s with
    ⟨hidle, -⟩ | ⟨-, addr, hberr, -⟩ | ⟨-, -, hpend, ht⟩ | ⟨-, -, hpend, ht⟩
  · simp [h.busy] at hidle
  · simp [h.berr] at hberr
  · exact .inl ⟨hpend, ht⟩
  · rcases engineStep_cases p s with ⟨addr, haddr, -⟩ | ⟨-, he⟩
    · simp [h.failingReads_eq_nil] at haddr
    · exact .inr ⟨hpend, ht.trans he⟩

theorem RunsWithoutError.keptByBatch {p : Params} {s : State} (h : RunsWithoutError p s) :
    RunsWithoutError p (accumulateBatch p s) where
  busy := h.busy
  berr := h.berr
  pendBound := fun n hn => h.pendBound n (List.mem_filter.1 hn).1
  readable := h.readable

/-- Enough turns end it with the completion of R152, in a state whose STATUS and watch are still those of the
start. -/
theorem RunsWithoutError.completes {p : Params} {k : Nat} {s : State} (h : RunsWithoutError p s)
    (hk : s.eng.pend.length + 1 ≤ k) :
    ∃ t, runEngine p k s = completeOk p t ∧ t.status = s.status ∧ t.watch = s.watch := by
  induction k generalizing s with
  | zero => omega
  | succ k ih =>
    rcases h.turn_cases with ⟨-, ht⟩ | ⟨hpend, ht⟩
    · exact ⟨s, by rw [runEngine_succ, ht, runEngine_idle p k rfl], rfl, rfl⟩
    · have hshrinks : (accumulateBatch p s).eng.pend.length < s.eng.pend.length := pend_shrinks p s hpend
      obtain ⟨t, hrun, hstatus, hwatch⟩ := ih h.keptByBatch (by omega)
      exact ⟨t, by rw [runEngine_succ, ht, hrun], hstatus, hwatch⟩

/-- A completion after a footprint write draws RESULT (20_memory.md R75). -/
theorem completionResult_written {p : Params} {s : State} (h : s.watch = .written) :
    completionResult p s = p.drawWord s.draws := by simp [completionResult, h]

/-- Settles O54: the store marks the watch and leaves the command in flight, whose completion then draws. -/
theorem footprintWriteMakesResultFree : Obligations.FootprintWriteMakesResultFree := by
  unfold Obligations.FootprintWriteMakesResultFree
  intro p s addr byte hb hw hberr hbound hf hread k hk
  rw [storeByte_inFlight hb hw hf]
  have hstart : RunsWithoutError p { s with watch := .written, mem := s.mem.write addr.toNat byte } :=
    ⟨hb, hberr, hbound, hread⟩
  obtain ⟨t, hrun, hstatus, hwatch⟩ := hstart.completes hk
  have herr : t.status.err = s.status.err := congrArg Status.err hstatus
  rw [hrun]
  exact ⟨rfl, rfl, herr, t.draws, completionResult_written hwatch⟩

end Sys2Proof.Machine
end

section
/-! SUPPORT. The fields of a command word as numbers and as bits, and what the engine's Decode reads off them
(30_encoding.md R91 to R94). -/

namespace Sys2Proof

theorem fieldW_eq (word : Word) : fieldW word = word.toNat % 256 := by
  simp [fieldW]

theorem fieldH_eq (word : Word) : fieldH word = word.toNat / 256 % 256 := by
  simp [fieldH, Nat.shiftRight_eq_div_pow]

theorem fieldDepth_eq (word : Word) :
    fieldDepth word = if word.toNat / 65536 % 2 = 1 then .wide else .narrow := by
  simp [fieldDepth, BitVec.getLsbD, Nat.testBit_eq_decide_div_mod_eq]

/-- The reserved field is the word's top, so no remainder is left to take. -/
theorem fieldReserved_eq (word : Word) : fieldReserved word = word.toNat / 131072 := by
  simp only [fieldReserved, BitVec.extractLsb'_toNat, Nat.shiftRight_eq_div_pow]
  omega

theorem fieldReserved_eq_zero_iff {word : Word} :
    fieldReserved word = 0 ↔ ∀ j, 17 ≤ j → j < 32 → word.getLsbD j = false := by
  have hzero : fieldReserved word = 0 ↔ word.extractLsb' 17 15 = 0#15 := by
    rw [fieldReserved, BitVec.toNat_eq]
    rfl
  rw [hzero]
  constructor
  · intro h j hlow hhigh
    have hbit := congrArg (·.getLsbD (j - 17)) h
    simpa [BitVec.getLsbD_extractLsb', show j - 17 < 15 by omega, show 17 + (j - 17) = j by omega] using hbit
  · intro h
    apply BitVec.eq_of_getLsbD_eq
    intro i hi
    simp [BitVec.getLsbD_extractLsb', hi, h (17 + i) (by omega) (by omega), -BitVec.getLsbD_eq_getElem]

/-- A word without reserved bits is the command word of its fields. -/
theorem eq_commandWord_of_fields {word : Word} (h : fieldReserved word = 0) :
    word = commandWord (fieldW word) (fieldH word) (fieldDepth word) := by
  rw [fieldReserved_eq] at h
  rw [fieldW_eq, fieldH_eq, fieldDepth_eq]
  apply BitVec.eq_of_toNat_eq
  simp only [commandWord, BitVec.toNat_ofNat]
  by_cases hdepth : word.toNat / 65536 % 2 = 1 <;> simp only [hdepth, ↓reduceIte] <;> omega

theorem decodeCommand_reserved {word : Word} (h : fieldReserved word ≠ 0) (ext : Bool) :
    decodeCommand word ext = .reject .reservedCmd := by
  simp [decodeCommand, h]

theorem shapeOutsideCatalog_iff {word : Word} :
    shapeOutsideCatalog word = true
      ↔ fieldReserved word = 0 ∧ (fieldW word, fieldH word) ∉ baseShapes ++ extShapes := by
  simp [shapeOutsideCatalog]

theorem decodeCommand_outsideCatalog {word : Word} (h : shapeOutsideCatalog word = true) (ext : Bool) :
    decodeCommand word ext = .reject .unsupportedShape := by
  obtain ⟨hres, hshape⟩ := shapeOutsideCatalog_iff.1 h
  rw [List.mem_append, not_or] at hshape
  simp [decodeCommand, hres, hshape]

/-- Settles O5: the fields as numbers, in the two tests of Decode. -/
theorem decodeChecksReservedBitsThenShape : Obligations.DecodeChecksReservedBitsThenShape := by
  unfold Obligations.DecodeChecksReservedBitsThenShape
  intro word ext
  rw [← fieldReserved_eq, ← fieldW_eq, ← fieldH_eq, ← fieldDepth_eq, ← baseShapes, ← extShapes, decodeCommand]
  split
  · rfl
  · by_cases hbase : (fieldW word, fieldH word) ∈ baseShapes
    · simp [hbase]
    · simp [hbase, and_comm]

end Sys2Proof
end

section
/-! SUPPORT. The rows of the opcode table that a command word decodes to, and the encoder on them (30_encoding.md
R94 to R97). -/

namespace Sys2Proof

/-- In a list whose keys rise, a search finds the element of the least key that passes the test. -/
theorem find?_eq_some_iff_of_rising {α : Type} {key : α → Nat} {p : α → Bool} {a : α} {l : List α}
    (h : l.Pairwise (key · < key ·)) :
    l.find? p = some a ↔ a ∈ l ∧ p a = true ∧ ∀ b ∈ l, key b < key a → p b = false := by
  rw [List.find?_eq_some_iff_append]
  constructor
  · rintro ⟨hp, before, after, rfl, hbefore⟩
    refine ⟨by simp, hp, fun b hb hlt => ?_⟩
    rw [List.pairwise_append, List.pairwise_cons] at h
    obtain ⟨-, ⟨hafter, -⟩, -⟩ := h
    rcases List.mem_append.1 hb with hb | hb
    · simpa using hbefore b hb
    · rcases List.mem_cons.1 hb with rfl | hb
      · omega
      · have := hafter b hb
        omega
  · rintro ⟨hmem, hp, hfirst⟩
    obtain ⟨before, after, rfl⟩ := List.append_of_mem hmem
    refine ⟨hp, before, after, rfl, fun b hb => ?_⟩
    rw [List.pairwise_append] at h
    obtain ⟨-, -, hlt⟩ := h
    simp [hfirst b (by simp [hb]) (hlt b hb a (by simp))]

/-! The 15 rows of RESERVED_CMD. -/

theorem reservedRows_bits : reservedRows.map Prod.fst = List.range' 17 15 := rfl

theorem reservedRows_rising : reservedRows.Pairwise (·.1 < ·.1) :=
  List.pairwise_map.1 (reservedRows_bits ▸ List.pairwise_lt_range')

/-- The rows are one for each of bits 17 to 31. -/
theorem exists_reservedRow_iff {j : Nat} : (∃ row ∈ reservedRows, row.1 = j) ↔ 17 ≤ j ∧ j < 32 := by
  rw [← List.mem_map, reservedRows_bits, List.mem_range'_1]

theorem firstReservedBit_iff {k : Nat} {word : Word} :
    firstReservedBit k word = true
      ↔ word.getLsbD k = true ∧ ∀ j, j < k → 17 ≤ j → word.getLsbD j = false := by
  simp only [firstReservedBit, Bool.and_eq_true, List.all_eq_true, List.mem_range, Bool.or_eq_true,
    decide_eq_true_eq, Bool.not_eq_true', ← not_lt, or_iff_not_imp_left]

/-- The reserved row found is the row of the word's first reserved bit. -/
theorem find?_reservedRows_eq_some_iff {word : Word} {row : Nat × (Word → Instr)} :
    reservedRows.find? (fun row => word.getLsbD row.1) = some row
      ↔ row ∈ reservedRows ∧ firstReservedBit row.1 word = true := by
  rw [find?_eq_some_iff_of_rising reservedRows_rising, firstReservedBit_iff]
  refine and_congr_right fun hrow => and_congr_right fun _ => ⟨fun h j hlt hlow => ?_, fun h b hb hlt => ?_⟩
  · obtain ⟨-, hhigh⟩ := exists_reservedRow_iff.1 ⟨row, hrow, rfl⟩
    obtain ⟨b, hb, rfl⟩ := exists_reservedRow_iff.2 ⟨hlow, hlt.trans hhigh⟩
    exact h b hb hlt
  · exact h b.1 hlt (exists_reservedRow_iff.1 ⟨b, hb, rfl⟩).1

/-- No reserved row is found exactly when no reserved bit is set. -/
theorem find?_reservedRows_eq_none_iff {word : Word} :
    reservedRows.find? (fun row => word.getLsbD row.1) = none ↔ fieldReserved word = 0 := by
  rw [List.find?_eq_none, fieldReserved_eq_zero_iff]
  constructor
  · intro h j hlow hhigh
    obtain ⟨row, hrow, rfl⟩ := exists_reservedRow_iff.2 ⟨hlow, hhigh⟩
    simpa using h row hrow
  · intro h row hrow
    obtain ⟨hlow, hhigh⟩ := exists_reservedRow_iff.1 ⟨row, hrow, rfl⟩
    simp [h row.1 hlow hhigh]

/-- A word with a first reserved bit has a reserved field that is not 0. -/
theorem fieldReserved_ne_zero_of_reservedRow {row : Nat × (Word → Instr)} {word : Word} (hrow : row ∈ reservedRows)
    (h : firstReservedBit row.1 word = true) : fieldReserved word ≠ 0 := by
  intro hzero
  obtain ⟨hlow, hhigh⟩ := exists_reservedRow_iff.1 ⟨row, hrow, rfl⟩
  have hclear := fieldReserved_eq_zero_iff.1 hzero row.1 hlow hhigh
  obtain ⟨hset, -⟩ := firstReservedBit_iff.1 h
  rw [hset] at hclear
  cases hclear

theorem reservedRow_encode {row : Nat × (Word → Instr)} (h : row ∈ reservedRows) (word : Word) :
    encode (row.2 word) = .command word ∧ (row.2 word).wellFormed = firstReservedBit row.1 word := by
  fin_cases h <;> exact ⟨rfl, rfl⟩

/-! The 32 rows of the operations. -/

/-- The row is the one that the word's shape and depth select (30_encoding.md R95). -/
def CommandRow.selects (row : CommandRow) (word : Word) : Bool :=
  row.w == fieldW word && row.h == fieldH word && row.depth == fieldDepth word

theorem CommandRow.selects_iff {row : CommandRow} {word : Word} :
    row.selects word = true ↔ row.w = fieldW word ∧ row.h = fieldH word ∧ row.depth = fieldDepth word := by
  simp [CommandRow.selects, and_assoc]

theorem commandRows_shape : ∀ row ∈ commandRows, (row.w, row.h) ∈ baseShapes ++ extShapes := by decide

theorem commandRows_encode : ∀ row ∈ commandRows,
    row.instr.wellFormed = true ∧ encode row.instr = .command (commandWord row.w row.h row.depth) := by decide

/-- Every shape of the catalog has a row of either depth. -/
theorem exists_commandRow {shape : Nat × Nat} (h : shape ∈ baseShapes ++ extShapes) (depth : Depth) :
    ∃ row ∈ commandRows, row.w = shape.1 ∧ row.h = shape.2 ∧ row.depth = depth := by
  cases depth <;> revert shape <;> decide

/-- No row is found exactly when the shape is outside the catalog. -/
theorem find?_commandRows_eq_none_iff {word : Word} :
    commandRows.find? (·.selects word) = none ↔ (fieldW word, fieldH word) ∉ baseShapes ++ extShapes := by
  rw [List.find?_eq_none]
  constructor
  · intro h hshape
    obtain ⟨row, hrow, hkey⟩ := exists_commandRow hshape (fieldDepth word)
    exact h row hrow (CommandRow.selects_iff.2 hkey)
  · intro h row hrow hselects
    obtain ⟨hw, hh, -⟩ := CommandRow.selects_iff.1 hselects
    exact h (hw ▸ hh ▸ commandRows_shape row hrow)

/-! The decoder on each kind of row. -/

theorem decodeCommandWord_reservedRow {row : Nat × (Word → Instr)} {word : Word} (hrow : row ∈ reservedRows)
    (h : firstReservedBit row.1 word = true) : decodeCommandWord word = row.2 word := by
  simp only [decodeCommandWord, find?_reservedRows_eq_some_iff.2 ⟨hrow, h⟩]

/-- Without a reserved bit the operations' rows are searched, and the last row is what is left. -/
theorem decodeCommandWord_unreserved {word : Word} (h : fieldReserved word = 0) :
    decodeCommandWord word =
      ((commandRows.find? (·.selects word)).map (·.instr)).getD (.rejectUnsupportedShape word) := by
  simp only [decodeCommandWord, find?_reservedRows_eq_none_iff.2 h, CommandRow.selects]
  split <;> simp only [*] <;> rfl

theorem decodeCommandWord_outsideCatalog {word : Word} (h : shapeOutsideCatalog word = true) :
    decodeCommandWord word = .rejectUnsupportedShape word := by
  obtain ⟨hres, hshape⟩ := shapeOutsideCatalog_iff.1 h
  rw [decodeCommandWord_unreserved hres, find?_commandRows_eq_none_iff.2 hshape]
  rfl

/-- What a command word can decode to: the row of its first reserved bit, the row of its shape and depth, or, with
neither, the last row (30_encoding.md R94, R97). -/
theorem decodeCommandWord_cases (word : Word) :
    (∃ row ∈ reservedRows, firstReservedBit row.1 word = true ∧ decodeCommandWord word = row.2 word)
      ∨ (∃ row ∈ commandRows, row.selects word = true ∧ fieldReserved word = 0
          ∧ decodeCommandWord word = row.instr)
      ∨ (shapeOutsideCatalog word = true ∧ decodeCommandWord word = .rejectUnsupportedShape word) := by
  cases hreserved : reservedRows.find? (fun row => word.getLsbD row.1) with
  | some row =>
    obtain ⟨hrow, hfirst⟩ := find?_reservedRows_eq_some_iff.1 hreserved
    exact .inl ⟨row, hrow, hfirst, decodeCommandWord_reservedRow hrow hfirst⟩
  | none =>
    have hres := find?_reservedRows_eq_none_iff.1 hreserved
    cases hcommand : commandRows.find? (·.selects word) with
    | some row =>
      have hselects : row.selects word = true := List.find?_some (p := (CommandRow.selects · word)) hcommand
      have hdec : decodeCommandWord word = row.instr := by
        rw [decodeCommandWord_unreserved hres, hcommand]
        rfl
      exact .inr (.inl ⟨row, List.mem_of_find?_eq_some hcommand, hselects, hres, hdec⟩)
    | none =>
      have hout := shapeOutsideCatalog_iff.2 ⟨hres, find?_commandRows_eq_none_iff.1 hcommand⟩
      exact .inr (.inr ⟨hout, decodeCommandWord_outsideCatalog hout⟩)

/-- The row that an unreserved word selects is the row of that very word. -/
theorem CommandRow.commandWord_of_selects {row : CommandRow} {word : Word} (h : row.selects word = true)
    (hres : fieldReserved word = 0) : commandWord row.w row.h row.depth = word := by
  obtain ⟨hw, hh, hd⟩ := CommandRow.selects_iff.1 h
  rw [hw, hh, hd, ← eq_commandWord_of_fields hres]

/-- Settles O2: each of the three kinds of row encodes to the word and is well-formed for it. -/
theorem everyCommandWordIsOneRow : Obligations.EveryCommandWordIsOneRow := by
  unfold Obligations.EveryCommandWordIsOneRow
  intro word
  refine ⟨decodeCommandWord word, rfl, ?_⟩
  rcases decodeCommandWord_cases word with
    ⟨row, hrow, hfirst, hdec⟩ | ⟨row, hrow, hselects, hres, hdec⟩ | ⟨hout, hdec⟩
  · obtain ⟨hencode, hwf⟩ := reservedRow_encode hrow word
    rw [hdec]
    exact ⟨hwf.trans hfirst, hencode⟩
  · obtain ⟨hwf, hencode⟩ := commandRows_encode row hrow
    rw [hdec, hencode, CommandRow.commandWord_of_selects hselects hres]
    exact ⟨hwf, rfl⟩
  · rw [hdec]
    exact ⟨hout, rfl⟩

/-- Settles O1: a reserved row is read back from its first reserved bit, the last row from a shape outside the
catalog; an operation's word and a register's key are fixed, and the decoder evaluates on them. -/
theorem decodeInvertsEncode : Obligations.DecodeInvertsEncode := by
  unfold Obligations.DecodeInvertsEncode
  intro i h
  cases i with
  | rejectReservedBit17 | rejectReservedBit18 | rejectReservedBit19 | rejectReservedBit20 | rejectReservedBit21
  | rejectReservedBit22 | rejectReservedBit23 | rejectReservedBit24 | rejectReservedBit25 | rejectReservedBit26
  | rejectReservedBit27 | rejectReservedBit28 | rejectReservedBit29 | rejectReservedBit30 | rejectReservedBit31 =>
    exact congrArg Except.ok (decodeCommandWord_reservedRow (row := (_, _)) (by simp [reservedRows]) h)
  | rejectUnsupportedShape => exact congrArg Except.ok (decodeCommandWord_outsideCatalog h)
  | _ => rfl

end Sys2Proof
end

section
/-! SUPPORT. Register accesses and their format (30_encoding.md R98, 42_host_access.md R212). -/

namespace Sys2Proof

/-- Every multiple of 4 in the window has a row in either direction. -/
theorem accessRows_lookup_isSome :
    ∀ (write : Bool), ∀ n < 16, (accessRows.lookup (accessKey write (4 * n))).isSome = true := by decide

/-- An access of the format is the row of its key, given its data. -/
theorem decodeAccess_inFormat (write : Bool) {offset : Nat} (data : Word) (halign : offset % 4 = 0)
    (hwindow : offset < 64) :
    ∃ row, accessRows.lookup (accessKey write offset) = some row
      ∧ decodeAccess write offset 4 data = .ok (row data) := by
  have hoffset : 4 * (offset / 4) = offset := by omega
  obtain ⟨row, hrow⟩ := Option.isSome_iff_exists.1 (accessRows_lookup_isSome write (offset / 4) (by omega))
  rw [hoffset] at hrow
  exact ⟨row, hrow, by simp [decodeAccess, halign, not_le.2 hwindow, hrow]⟩

theorem inFormat_of_decodeAccess {write : Bool} {offset size : Nat} {data : Word} {i : Instr}
    (h : decodeAccess write offset size data = .ok i) : size = 4 ∧ offset % 4 = 0 ∧ offset < 64 := by
  unfold decodeAccess at h
  split at h
  · cases h
  next hsize =>
    split at h
    · cases h
    next halign =>
      split at h
      · cases h
      next hwindow => exact ⟨not_not.1 hsize, not_not.1 halign, not_le.1 hwindow⟩

/-- Settles O3: the three refusals leave the format, and every key of the format has a row. -/
theorem accessDecodesIffInFormat : Obligations.AccessDecodesIffInFormat := by
  unfold Obligations.AccessDecodesIffInFormat
  intro write offset size data
  constructor
  · rintro ⟨i, h⟩
    exact inFormat_of_decodeAccess h
  · rintro ⟨rfl, halign, hwindow⟩
    obtain ⟨row, -, h⟩ := decodeAccess_inFormat write data halign hwindow
    exact ⟨row data, h⟩

/-- Settles O4: each of the words and keys is the encoding of a well-formed row, which O1 reads back. -/
theorem specWordsDecode : Obligations.SpecWordsDecode := by
  unfold Obligations.SpecWordsDecode
  exact ⟨decodeInvertsEncode .obmcsad8_4x4 rfl, decodeInvertsEncode .obmcsad16_8x4 rfl,
    decodeInvertsEncode .obmcsad16_64x128 rfl, decodeInvertsEncode (.rejectReservedBit17 0x00030404#32) rfl,
    decodeInvertsEncode (.rejectReservedBit31 0x80000000#32) rfl,
    decodeInvertsEncode (.rejectUnsupportedShape 0x00001004#32) rfl, decodeInvertsEncode .rdStatus rfl,
    decodeInvertsEncode (.wrCtrl 3#32) rfl⟩

end Sys2Proof
end

section
/-! SUPPORT. The two request forms of a command word have one effect (30_encoding.md R99). -/

namespace Sys2Proof

/-- What the engine's Decode makes of the row's word (30_encoding.md R93, R94). -/
def CommandRow.decoded (row : CommandRow) (ext : Bool) : Decoded :=
  if (row.w, row.h) ∈ baseShapes then .op row.w row.h row.depth
  else if ext then .op row.w row.h row.depth
  else .reject .unsupportedShape

theorem decodeCommand_commandRow {row : CommandRow} {word : Word} (hrow : row ∈ commandRows)
    (hselects : row.selects word = true) (hres : fieldReserved word = 0) (ext : Bool) :
    decodeCommand word ext = row.decoded ext := by
  obtain ⟨hw, hh, hd⟩ := CommandRow.selects_iff.1 hselects
  have hshape := commandRows_shape row hrow
  rw [List.mem_append] at hshape
  by_cases hbase : (row.w, row.h) ∈ baseShapes
  · simp [decodeCommand, CommandRow.decoded, hres, ← hw, ← hh, ← hd, hbase]
  · simp [decodeCommand, CommandRow.decoded, hres, ← hw, ← hh, ← hd, hbase, hshape.resolve_left hbase]

namespace Machine

theorem exec_wrCmd (word : Word) (s : State) :
    exec (.wrCmd word) s = .next (writeCommand word (decodeCommand word s.ctrl.extEn) s) := rfl

theorem exec_reservedRow {row : Nat × (Word → Instr)} (h : row ∈ reservedRows) (word : Word) (s : State) :
    exec (row.2 word) s = .next (writeCommand word (.reject .reservedCmd) s) := by
  fin_cases h <;> rfl

theorem exec_commandRow {row : CommandRow} (h : row ∈ commandRows) (s : State) :
    exec row.instr s =
      .next (writeCommand (commandWord row.w row.h row.depth) (row.decoded s.ctrl.extEn) s) := by
  fin_cases h <;> rfl

/-- The row of a word writes the word to CMD with what Decode makes of it. -/
theorem exec_decodeCommandWord (word : Word) (s : State) :
    exec (decodeCommandWord word) s = exec (.wrCmd word) s := by
  rw [exec_wrCmd]
  rcases decodeCommandWord_cases word with
    ⟨row, hrow, hfirst, hdec⟩ | ⟨row, hrow, hselects, hres, hdec⟩ | ⟨hout, hdec⟩
  · rw [hdec, exec_reservedRow hrow, decodeCommand_reserved (fieldReserved_ne_zero_of_reservedRow hrow hfirst)]
  · rw [hdec, exec_commandRow hrow, CommandRow.commandWord_of_selects hselects hres,
      decodeCommand_commandRow hrow hselects hres]
  · rw [hdec, decodeCommand_outsideCatalog hout]
    rfl

/-- A request that decodes is executed. -/
theorem runRequest_of_decode {r : Request} {i : Instr} (h : decode r = .ok i) (s : State) :
    runRequest r s = exec i s := by
  simp only [runRequest, h]

/-- Settles O6: the instructions have one effect, and either step executes its instruction. -/
theorem commandWordIsCmdWrite : Obligations.CommandWordIsCmdWrite := by
  unfold Obligations.CommandWordIsCmdWrite
  refine ⟨exec_decodeCommandWord, fun word s rest => ?_⟩
  have hcommand : decode (.command word) = .ok (decodeCommandWord word) := rfl
  have haccess : decode (.access true 0x0C 4 word) = .ok (.wrCmd word) := decodeInvertsEncode (.wrCmd word) rfl
  rw [step_cons rfl, step_cons rfl, runInput, runInput, runRequest_of_decode hcommand,
    runRequest_of_decode haccess, exec_decodeCommandWord]

end Machine

end Sys2Proof
end

section
/-! SUPPORT. The POLL loop (30_encoding.md R100, 70_reset_and_hazards.md R269). -/

namespace Sys2Proof.Machine

theorem pollMatches_iff {mask value data : Word} : pollMatches mask value data = true ↔ data &&& mask = value := by
  simp [pollMatches]

/-- A poll's read that answers is followed by the match test. -/
theorem runPoll_of_read {offset : Nat} {mask value : Word} {i : Instr} {s t : State}
    (hdec : decode (.access false offset 4 0#32) = .ok i) (hread : exec i s = .next t) :
    runPoll offset mask value s = .next (pollAgain offset mask value t) := by
  simp only [runPoll, runRequest_of_decode hdec, hread]

/-- Settles O10: the step runs one read, which leaves the list of inputs to the match test. -/
theorem pollReadsUntilMatch : Obligations.PollReadsUntilMatch := by
  unfold Obligations.PollReadsUntilMatch
  intro s t offset mask value rest i hinputs hdec hread
  obtain ⟨-, -, hrest, -⟩ := (effect_of_exec hread).frame
  rw [step_cons hinputs, runInput, runPoll_of_read hdec hread, pollAgain]
  simp only [pollMatches_iff, hrest]

end Sys2Proof.Machine
end

section
/-! SUPPORT. A pixel's operands, its rounded term and the operand domain (40_kernel.md R121 to R131). -/

namespace Sys2Proof.Machine

/-- A 32-bit value from 2^31 on stands for itself less 2^32 (00_scope.md R16). -/
theorem signed32_eq {v : Nat} (hv : v < 4294967296) :
    signed32 v = if v < 2147483648 then (v : Int) else (v : Int) - 4294967296 := by
  unfold signed32
  split
  · rfl
  · omega

theorem fetchPixel_a_narrow (byte : Elem → Word → Byte) {e : Engine} (hd : e.depth = .narrow) (n : Nat) :
    (fetchPixel byte e n).a = memRead (byte .sample) (elemAddr e .sample n) 1 := by
  rw [fetchPixel, hd, sampleSize]

theorem fetchPixel_a_wide (byte : Elem → Word → Byte) {e : Engine} (hd : e.depth = .wide) (n : Nat) :
    (fetchPixel byte e n).a = memRead (byte .sample) (elemAddr e .sample n) 2 := by
  rw [fetchPixel, hd, sampleSize]

/-- Settles O36: the sample is the read at its depth's width; the weights are 32-bit reads, so `signed32` is two's
complement on them. -/
theorem fetchExtendsSamplesAndWeights : Obligations.FetchExtendsSamplesAndWeights := by
  unfold Obligations.FetchExtendsSamplesAndWeights
  intro byte e n
  refine ⟨fun hd => ⟨fetchPixel_a_narrow byte hd n, ?narrow⟩, fun hd => ⟨fetchPixel_a_wide byte hd n, ?wide⟩,
    signed32_eq (memRead_lt _ _ 4), signed32_eq (memRead_lt _ _ 4)⟩
  case narrow =>
    rw [fetchPixel_a_narrow byte hd]
    exact Nat.le_of_lt_succ (memRead_lt _ _ 1)
  case wide =>
    rw [fetchPixel_a_wide byte hd]
    exact Nat.le_of_lt_succ (memRead_lt _ _ 2)

theorem fitsS32_iff {x : Int} : fitsS32 x = true ↔ -(2 : Int) ^ 31 ≤ x ∧ x ≤ (2 : Int) ^ 31 - 1 := by
  simp [fitsS32]

theorem pixelTerm_fst (x : PixelOperands) : (pixelTerm x).1 = (2048 + (x.w - x.a * x.m).natAbs) / 4096 := rfl

/-- The operand domain, as the spec's three conditions on integers (40_kernel.md R129). -/
theorem pixelTerm_snd_iff {x : PixelOperands} :
    (pixelTerm x).2 = true ↔
      (-(2 : Int) ^ 31 ≤ x.a * x.m ∧ x.a * x.m ≤ (2 : Int) ^ 31 - 1)
        ∧ (-(2 : Int) ^ 31 ≤ x.w - x.a * x.m ∧ x.w - x.a * x.m ≤ (2 : Int) ^ 31 - 1)
        ∧ |x.w - x.a * x.m| + 2048 ≤ (2 : Int) ^ 31 - 1 := by
  have hround : 2048 + (x.w - x.a * x.m).natAbs ≤ 2147483647 ↔
      |x.w - x.a * x.m| + 2048 ≤ (2 : Int) ^ 31 - 1 := by
    rw [Int.abs_eq_natAbs]
    omega
  rw [pixelTerm, inDomain, Bool.and_eq_true, Bool.and_eq_true, fitsS32_iff, fitsS32_iff, decide_eq_true_iff, hround,
    and_assoc]

/-- Inside the domain the rounding addition stays below 2^31, so the term stays below 2^19 (40_kernel.md R127). -/
theorem pixelTerm_le_of_inDomain {x : PixelOperands} (h : (pixelTerm x).2 = true) : (pixelTerm x).1 ≤ 524287 := by
  obtain ⟨-, -, hround⟩ := pixelTerm_snd_iff.1 h
  rw [Int.abs_eq_natAbs] at hround
  rw [pixelTerm_fst]
  omega

/-- Settles O37: the term is a quotient by 4096, and the domain bounds its dividend. -/
theorem termIsRoundedHalfUp : Obligations.TermIsRoundedHalfUp := by
  unfold Obligations.TermIsRoundedHalfUp
  intro x
  refine ⟨?_, ?_, pixelTerm_le_of_inDomain⟩
  all_goals
    rw [Int.abs_eq_natAbs, pixelTerm_fst]
    omega

/-- Settles O38: the domain test says the three conditions. -/
theorem domainIsThirtyTwoBitLane : Obligations.DomainIsThirtyTwoBitLane := by
  unfold Obligations.DomainIsThirtyTwoBitLane
  exact fun _ => pixelTerm_snd_iff

/-- Settles O39: the product is at most 65535 * 32767 in magnitude, which leaves room for the weighted source and the
rounding constant. -/
theorem fifteenBitWeightsAreInDomain : Obligations.FifteenBitWeightsAreInDomain := by
  unfold Obligations.FifteenBitWeightsAreInDomain
  intro x ha hm hw
  have hproduct : |(x.a : Int) * x.m| ≤ 65535 * 32767 := by
    rw [abs_mul, Nat.abs_cast]
    exact mul_le_mul (by omega) (by omega) (abs_nonneg _) (by norm_num)
  have hdiff : |x.w - x.a * x.m| ≤ |x.w| + |(x.a : Int) * x.m| := abs_sub _ _
  obtain ⟨hplow, hphigh⟩ := abs_le.1 hproduct
  obtain ⟨hdlow, hdhigh⟩ := abs_le.1 hdiff
  rw [pixelTerm_snd_iff]
  omega

end Sys2Proof.Machine
end

section
/-! SUPPORT. The kernel as the sum of its terms: its value modulo 2^32, its order, and what its value depends on
(40_kernel.md R120, R128 to R136). -/

namespace Sys2Proof.Machine

theorem anyOutside_eq_false {byte : Nat → Elem → Word → Byte} {e : Engine} {l : List Nat} :
    anyOutside byte e l = false ↔ ∀ n ∈ l, (termOf byte e n).2 = true := by
  simp [anyOutside]

theorem anyOutside_append (byte : Nat → Elem → Word → Byte) (e : Engine) (l l' : List Nat) :
    anyOutside byte e (l ++ l') = (anyOutside byte e l || anyOutside byte e l') := List.any_append

/-- The kernel's value is the sum of the terms modulo 2^32. -/
theorem kernel_fst_toNat (byte : Nat → Elem → Word → Byte) (e : Engine) :
    (kernel byte e).1.toNat = ((List.range (e.w * e.h)).map fun n => (termOf byte e n).1).sum % 4294967296 := by
  rw [kernel, accumulate_toNat, BitVec.toNat_ofNat, Nat.zero_mod, Nat.zero_add]

/-- Whether some pixel of the block is outside the domain (40_kernel.md R129). -/
theorem kernel_snd_eq_false {byte : Nat → Elem → Word → Byte} {e : Engine} :
    (kernel byte e).2 = false ↔ ∀ n, n < e.w * e.h → (termOf byte e n).2 = true := by
  simp only [kernel, anyOutside_eq_false, List.mem_range]

/-- Terms of at most 524287 sum to at most 524287 for each pixel. -/
theorem sum_terms_le {byte : Nat → Elem → Word → Byte} {e : Engine} {l : List Nat}
    (h : ∀ n ∈ l, (termOf byte e n).1 ≤ 524287) : (l.map fun n => (termOf byte e n).1).sum ≤ l.length * 524287 := by
  have hsum := List.sum_le_card_nsmul (l.map fun n => (termOf byte e n).1) 524287
    (List.forall_mem_map.2 h)
  rwa [List.length_map, smul_eq_mul] at hsum

/-- Settles O40: 8192 terms of at most 524287 sum to less than 2^32. -/
theorem kernelSumWrapsModulo32Bits : Obligations.KernelSumWrapsModulo32Bits := by
  unfold Obligations.KernelSumWrapsModulo32Bits
  intro byte e
  refine ⟨kernel_fst_toNat byte e, fun hin => ?_⟩
  have hterm : ∀ n, n < e.w * e.h → (termOf byte e n).1 ≤ 524287 :=
    fun n hn => pixelTerm_le_of_inDomain (kernel_snd_eq_false.1 hin n hn)
  refine ⟨hterm, fun hsize => (kernel_fst_toNat byte e).trans (Nat.mod_eq_of_lt ?_)⟩
  have hsum := sum_terms_le (l := List.range (e.w * e.h)) fun n hn => hterm n (List.mem_range.1 hn)
  rw [List.length_range] at hsum
  omega

/-- Addition modulo 2^32 commutes, so the order of the pixels does not matter. -/
theorem accumulate_perm (byte : Nat → Elem → Word → Byte) (e : Engine) (acc : Word) {l l' : List Nat}
    (h : l.Perm l') : accumulate byte e acc l = accumulate byte e acc l' := by
  apply BitVec.eq_of_toNat_eq
  rw [accumulate_toNat, accumulate_toNat, (h.map _).sum_eq]

theorem anyOutside_perm (byte : Nat → Elem → Word → Byte) (e : Engine) {l l' : List Nat} (h : l.Perm l') :
    anyOutside byte e l = anyOutside byte e l' := h.any_eq

/-- Settles O41: the sum and the flag each ignore the order. -/
theorem accumulationIgnoresOrder : Obligations.AccumulationIgnoresOrder := by
  unfold Obligations.AccumulationIgnoresOrder
  exact fun byte e acc _ _ h => ⟨accumulate_perm byte e acc h, anyOutside_perm byte e h⟩

/-- Settles O42: equal samples and equal weights make equal operands, so the two commands sum equal terms. -/
theorem narrowAndWideAgreeOnEqualSamples : Obligations.NarrowAndWideAgreeOnEqualSamples := by
  unfold Obligations.NarrowAndWideAgreeOnEqualSamples
  intro byte byte' e e' hnarrow hwide hw hh hreads
  have hterms : ∀ n ∈ List.range (e.w * e.h), termOf byte e n = termOf byte' e' n := by
    intro n hn
    obtain ⟨hsample, hmsk, hwsrc⟩ := hreads n (List.mem_range.1 hn)
    refine congrArg pixelTerm ?_
    simp only [fetchPixel, hnarrow, hwide, sampleSize, hsample, hmsk, hwsrc]
  rw [kernel, kernel, ← hw, ← hh, accumulate_congr hterms, anyOutside_congr hterms]

/-- A pixel whose weighted source is its weighted prediction has term 0 and is in the domain when the product is. -/
theorem pixelTerm_of_equal_prediction {x : PixelOperands} (heq : x.w = x.a * x.m)
    (hlow : -(2 : Int) ^ 31 ≤ x.a * x.m) (hhigh : x.a * x.m ≤ (2 : Int) ^ 31 - 1) : pixelTerm x = (0, true) := by
  have hdiff : x.w - x.a * x.m = 0 := by rw [heq, sub_self]
  refine Prod.ext ?_ (pixelTerm_snd_iff.2 ⟨⟨hlow, hhigh⟩, ?_⟩)
  · rw [pixelTerm_fst, hdiff]
    rfl
  · rw [hdiff]
    norm_num

/-- Settles O43: every term is 0 and in the domain. -/
theorem equalPredictionGivesZero : Obligations.EqualPredictionGivesZero := by
  unfold Obligations.EqualPredictionGivesZero
  intro byte e h
  have hterm : ∀ n, n < e.w * e.h → termOf byte e n = (0, true) := fun n hn =>
    have ⟨heq, hlow, hhigh⟩ := h n hn
    pixelTerm_of_equal_prediction heq hlow hhigh
  refine Prod.ext (BitVec.eq_of_toNat_eq ?_) (kernel_snd_eq_false.2 fun n hn => by rw [hterm n hn])
  have hsum : ((List.range (e.w * e.h)).map fun n => (termOf byte e n).1).sum = 0 :=
    List.sum_eq_zero (List.forall_mem_map.2 fun n hn => by rw [hterm n (List.mem_range.1 hn)])
  rw [kernel_fst_toNat, hsum]
  rfl

end Sys2Proof.Machine
end

section
/-! SUPPORT. The engine's turns compute the kernel: what is still to be accumulated onto ACC is the same before and
after every batch (41_catalog_dispatch.md R151, R152, R154; 20_memory.md R77). -/

namespace Sys2Proof.Machine

/-- What a command in flight still comes to: the pending pixels accumulated onto ACC and OOD over memory as it
stands. -/
def outcome (p : Params) (s : State) : Word × Bool :=
  (accumulate (snapshot p s.mem) s.eng s.eng.acc s.eng.pend,
    s.eng.ood || anyOutside (snapshot p s.mem) s.eng s.eng.pend)

/-- At acceptance all is still to be accumulated. -/
theorem JustAccepted.outcome_eq {s : State} (h : JustAccepted s) (p : Params) : outcome p s = kernelOf p s := by
  rw [outcome, h.pend, h.acc, h.ood, Bool.false_or]
  rfl

/-- With nothing pending ACC and OOD hold the outcome. -/
theorem outcome_of_pend_nil {p : Params} {s : State} (h : s.eng.pend = []) :
    outcome p s = (s.eng.acc, s.eng.ood) := by
  rw [outcome, h, accumulate_nil, anyOutside_nil, Bool.or_false]

/-- A turn's reads of a footprint outside the window are reads of memory. -/
theorem termOf_turnBytes {p : Params} {s : State} (hout : FootprintOutsideWindow p s.eng) {n : Nat}
    (hn : n < s.eng.w * s.eng.h) : termOf (turnBytes p s) s.eng n = termOf (snapshot p s.mem) s.eng n :=
  termOf_congr fun elem addr haddr =>
    busByte_memory (hout addr (inFootprint_of_elemHolds hn haddr)) s.mem s.draws n elem

/-- The batch and what stays pending are the pending pixels in another order. -/
theorem chosenPixels_append_perm (p : Params) (s : State) :
    (chosenPixels p s ++ s.eng.pend.filter fun n => !chosen p s n).Perm s.eng.pend :=
  List.filter_append_perm (chosen p s) s.eng.pend

/-- A batch moves pixels from PEND into ACC and OOD and leaves what the command comes to. -/
theorem outcome_accumulateBatch {p : Params} {s : State} (hbound : ∀ n ∈ s.eng.pend, n < s.eng.w * s.eng.h)
    (hout : FootprintOutsideWindow p s.eng) : outcome p (accumulateBatch p s) = outcome p s := by
  have hterms : ∀ n ∈ chosenPixels p s, termOf (turnBytes p s) s.eng n = termOf (snapshot p s.mem) s.eng n :=
    fun n hn => termOf_turnBytes hout (hbound n (mem_chosenPixels.1 hn).1)
  refine Prod.ext ?acc ?ood
  case acc =>
    calc (outcome p (accumulateBatch p s)).1
      _ = accumulate (snapshot p s.mem) s.eng (accumulate (turnBytes p s) s.eng s.eng.acc (chosenPixels p s))
            (s.eng.pend.filter fun n => !chosen p s n) := rfl
      _ = accumulate (snapshot p s.mem) s.eng s.eng.acc
            (chosenPixels p s ++ s.eng.pend.filter fun n => !chosen p s n) := by
          rw [accumulate_congr hterms, accumulate_append]
      _ = (outcome p s).1 := accumulate_perm _ _ _ (chosenPixels_append_perm p s)
  case ood =>
    calc (outcome p (accumulateBatch p s)).2
      _ = ((s.eng.ood || anyOutside (turnBytes p s) s.eng (chosenPixels p s))
            || anyOutside (snapshot p s.mem) s.eng (s.eng.pend.filter fun n => !chosen p s n)) := rfl
      _ = (s.eng.ood || anyOutside (snapshot p s.mem) s.eng
            (chosenPixels p s ++ s.eng.pend.filter fun n => !chosen p s n)) := by
          rw [anyOutside_congr hterms, Bool.or_assoc, anyOutside_append]
      _ = (outcome p s).2 := by rw [anyOutside_perm _ _ (chosenPixels_append_perm p s), outcome]

/-- The state in which a command in flight is completed: all accumulated, nothing pending. -/
def fullyAccumulated (p : Params) (draws : Nat) (s : State) : State :=
  { s with
    eng := { s.eng with acc := (outcome p s).1, ood := (outcome p s).2, pend := [] }
    draws := draws }

theorem fullyAccumulated_of_pend_nil {p : Params} {s : State} (h : s.eng.pend = []) :
    fullyAccumulated p s.draws s = s := by
  rw [fullyAccumulated, outcome_of_pend_nil h, ← h]

/-- A batch leads to the same end. -/
theorem fullyAccumulated_accumulateBatch {p : Params} {s : State}
    (hbound : ∀ n ∈ s.eng.pend, n < s.eng.w * s.eng.h) (hout : FootprintOutsideWindow p s.eng) (draws : Nat) :
    fullyAccumulated p draws (accumulateBatch p s) = fullyAccumulated p draws s := by
  rw [fullyAccumulated, outcome_accumulateBatch hbound hout]
  rfl

/-- Enough turns complete a command over a footprint outside the window with all its pixels accumulated. -/
theorem RunsWithoutError.completes_fullyAccumulated {p : Params} {k : Nat} {s : State} (h : RunsWithoutError p s)
    (hout : FootprintOutsideWindow p s.eng) (hk : s.eng.pend.length + 1 ≤ k) :
    ∃ draws, runEngine p k s = completeOk p (fullyAccumulated p draws s) := by
  induction k generalizing s with
  | zero => omega
  | succ k ih =>
    rw [runEngine_succ]
    rcases h.turn_cases with ⟨hpend, ht⟩ | ⟨hpend, ht⟩
    · exact ⟨s.draws, by rw [ht, runEngine_idle p k rfl, fullyAccumulated_of_pend_nil hpend]⟩
    · have hshrinks : (accumulateBatch p s).eng.pend.length < s.eng.pend.length := pend_shrinks p s hpend
      obtain ⟨draws, hrun⟩ := ih h.keptByBatch hout (by omega)
      exact ⟨draws, by rw [ht, hrun, fullyAccumulated_accumulateBatch h.pendBound hout]⟩

theorem JustAccepted.runsWithoutError {p : Params} {s : State} (h : JustAccepted s)
    (hread : FootprintReadable p s.eng) : RunsWithoutError p s where
  busy := h.busy
  berr := h.berr
  pendBound := fun _ hn => List.mem_range.1 (h.pend ▸ hn)
  readable := hread

/-- While the footprint is stable the completion writes ACC, or draws when a pixel was out of the domain. -/
theorem completionResult_stable {p : Params} {s : State} (h : s.watch = .stable) :
    completionResult p s = if s.eng.ood then p.drawWord s.draws else s.eng.acc := by
  simp [completionResult, h]

/-- Settles O50: the run ends in the completion of the fully accumulated command, whose outcome at acceptance is the
kernel. -/
theorem engineComputesTheKernel : Obligations.EngineComputesTheKernel := by
  unfold Obligations.EngineComputesTheKernel
  intro p s hacc hwatch hread hout k hk
  have hturns : s.eng.pend.length + 1 ≤ k := by rwa [hacc.pend, List.length_range]
  obtain ⟨draws, hrun⟩ := (hacc.runsWithoutError hread).completes_fullyAccumulated hout hturns
  have hresult : completionResult p (fullyAccumulated p draws s)
      = if (kernelOf p s).2 then p.drawWord draws else (kernelOf p s).1 := by
    rw [← hacc.outcome_eq]
    exact completionResult_stable hwatch
  rw [hrun, completeOk_status, completeOk_result, hresult, ← hacc.outcome_eq]
  exact ⟨rfl, fun hin => by rw [hin]; rfl, fun hood => ⟨draws, by rw [hood]; rfl⟩,
    rfl, rfl, rfl, rfl, rfl, rfl, rfl, rfl⟩

/-- Settles O53: both engines end with the kernel, and the kernel does not mention the batching. -/
theorem batchingIsNotObservable : Obligations.BatchingIsNotObservable := by
  unfold Obligations.BatchingIsNotObservable
  intro p batch s hacc hwatch hread hout hin k hk
  obtain ⟨hstatus, hresult, -⟩ := engineComputesTheKernel p s hacc hwatch hread hout k hk
  obtain ⟨hstatus', hresult', -⟩ :=
    engineComputesTheKernel { p with batch := batch } s hacc hwatch hread hout k hk
  exact ⟨(hresult' hin).trans (hresult hin).symm, hstatus'.trans hstatus.symm⟩

end Sys2Proof.Machine
end

section
/-! SUPPORT. An engine turn when each of R153, R152 and R151 is enabled, what a batch is, and the turns a command in
flight takes to its completion (41_catalog_dispatch.md R151 to R153). -/

namespace Sys2Proof.Machine

theorem engineTurn_of_berr {p : Params} {s : State} {addr : Word} (hb : s.status.busy = true)
    (h : s.eng.berr = some addr) : engineTurn p s = completeBusError addr s := by
  simp [engineTurn, hb, h]

theorem engineTurn_of_pend_nil {p : Params} {s : State} (hb : s.status.busy = true) (hberr : s.eng.berr = none)
    (h : s.eng.pend = []) : engineTurn p s = completeOk p s := by
  simp [engineTurn, hb, hberr, h]

theorem engineTurn_of_pend {p : Params} {s : State} (hb : s.status.busy = true) (hberr : s.eng.berr = none)
    (h : s.eng.pend ≠ []) : engineTurn p s = engineStep p s := by
  simp [engineTurn, hb, hberr, h]

/-- No read fails exactly when every element of the pixels can be read (00_scope.md R12). -/
theorem failingReads_eq_nil_iff {p : Params} {e : Engine} {pixels : List Nat} :
    failingReads p e pixels = [] ↔
      ∀ n ∈ pixels, ∀ elem, p.memOk (elemAddr e elem n) (elemSize e.depth elem) = true := by
  rw [List.eq_nil_iff_forall_not_mem]
  constructor
  · intro h n hn elem
    by_contra hfail
    exact h _ (mem_failingReads.2 ⟨n, hn, elem, by simpa using hfail, rfl⟩)
  · intro h addr haddr
    obtain ⟨n, hn, elem, hfail, -⟩ := mem_failingReads.1 haddr
    simp [h n hn elem] at hfail

/-- What a batch leaves pending is what is not in it. -/
theorem pend_filter_not_chosen (p : Params) (s : State) :
    (s.eng.pend.filter fun n => !chosen p s n) = s.eng.pend.filter fun n => !(chosenPixels p s).contains n := by
  refine List.filter_congr fun n hn => congrArg (!·) ?_
  rw [Bool.eq_iff_iff, List.contains_iff_mem, mem_chosenPixels, and_iff_right hn]

/-- Settles O45: the batch is the chosen pixels, and the step records a failing read of theirs or accumulates
them. -/
theorem engineStepTakesSomePendingPixels : Obligations.EngineStepTakesSomePendingPixels := by
  unfold Obligations.EngineStepTakesSomePendingPixels
  intro p s hb hberr hpend
  refine ⟨chosenPixels p s, chosenPixels_ne_nil p s hpend, fun n hn => (mem_chosenPixels.1 hn).1, ?_⟩
  rw [engineTurn_of_pend hb hberr hpend]
  rcases engineStep_cases p s with ⟨addr, haddr, he⟩ | ⟨hnone, he⟩
  · obtain ⟨n, hn, elem, hfail, rfl⟩ := mem_failingReads.1 haddr
    exact .inl ⟨n, hn, elem, hfail, he⟩
  · refine .inr ⟨failingReads_eq_nil_iff.1 hnone, ?_⟩
    rw [he, ← pend_filter_not_chosen]
    rfl

/-- Settles O46: the completion without error, its choice of RESULT written as a proposition. -/
theorem completionWritesResult : Obligations.CompletionWritesResult := by
  unfold Obligations.CompletionWritesResult
  intro p s hb hberr hpend
  have hresult : completionResult p s =
      if s.eng.ood = true ∨ s.watch = .written then p.drawWord s.draws else s.eng.acc := by
    simp [completionResult]
  rw [engineTurn_of_pend_nil hb hberr hpend, ← hresult]
  rfl

/-- Settles O47: the turn is the completion with a bus error, which writes these fields. -/
theorem busErrorCompletionKeepsResult : Obligations.BusErrorCompletionKeepsResult := by
  unfold Obligations.BusErrorCompletionKeepsResult
  exact fun _ _ _ hb hberr => engineTurn_of_berr hb hberr

/-- A bus error just recorded ends the command in the next turn, and the turns after it change nothing. -/
theorem runEngine_recordBusError {p : Params} {s : State} {k : Nat} (hb : s.status.busy = true) (hk : 0 < k)
    (addr : Word) : runEngine p k (recordBusError addr s) = completeBusError addr (recordBusError addr s) := by
  obtain ⟨k, rfl⟩ := Nat.exists_eq_add_one_of_ne_zero hk.ne'
  rw [runEngine_succ, engineTurn_of_berr (s := recordBusError addr s) hb rfl, runEngine_idle p k rfl]

/-- Settles O49: a turn completes the command, takes a pixel out of PEND, or records the error that the next turn
completes with. -/
theorem commandAlwaysCompletes : Obligations.CommandAlwaysCompletes := by
  unfold Obligations.CommandAlwaysCompletes
  intro p s k hk
  induction k generalizing s with
  | zero => omega
  | succ k ih =>
    rw [runEngine_succ]
    rcases engineTurn_cases p s with ⟨hidle, ht⟩ | ⟨-, addr, -, ht⟩ | ⟨-, -, -, ht⟩ | ⟨hb, -, hpend, ht⟩
    · rw [ht, runEngine_idle p k hidle, hidle]
    · rw [ht, runEngine_idle p k rfl, completeBusError_status, statusOnError_busy]
    · rw [ht, runEngine_idle p k rfl, completeOk_status, statusOnCompletion_busy]
    · rw [ht]
      have hlength : 0 < s.eng.pend.length := List.length_pos_iff.2 hpend
      rcases engineStep_cases p s with ⟨addr, -, he⟩ | ⟨-, he⟩
      · rw [he, runEngine_recordBusError hb (by omega), completeBusError_status, statusOnError_busy]
      · have hshrinks : (accumulateBatch p s).eng.pend.length < s.eng.pend.length := pend_shrinks p s hpend
        rw [he]
        exact ih _ (by omega)

end Sys2Proof.Machine
end

section
/-! SUPPORT. A command with an unreadable element runs to a bus error (41_catalog_dispatch.md R153, 60_exceptions.md
R235): the element stays pending until some failing read is recorded. -/

namespace Sys2Proof.Machine

/-- The address of an element of the command whose read fails (00_scope.md R12). -/
def FailingElement (p : Params) (e : Engine) (addr : Word) : Prop :=
  ∃ n elem, n < e.w * e.h ∧ p.memOk (elemAddr e elem n) (elemSize e.depth elem) = false ∧ addr = elemAddr e elem n

/-- A command in flight, no failing read recorded, that will meet one: PEND holds pixels of the block, and one of them
has an element whose read fails. -/
structure MeetsBusError (p : Params) (s : State) : Prop where
  busy : s.status.busy = true
  berr : s.eng.berr = none
  pendBound : ∀ n ∈ s.eng.pend, n < s.eng.w * s.eng.h
  fails : ∃ n ∈ s.eng.pend, ∃ elem, p.memOk (elemAddr s.eng elem n) (elemSize s.eng.depth elem) = false

theorem JustAccepted.meetsBusError {p : Params} {s : State} (h : JustAccepted s)
    (hread : ¬ FootprintReadable p s.eng) : MeetsBusError p s where
  busy := h.busy
  berr := h.berr
  pendBound := fun _ hn => List.mem_range.1 (h.pend ▸ hn)
  fails := by
    simp only [FootprintReadable, not_forall, Bool.not_eq_true] at hread
    obtain ⟨n, hn, elem, hfail⟩ := hread
    exact ⟨n, h.pend ▸ List.mem_range.2 hn, elem, hfail⟩

namespace MeetsBusError

variable {p : Params} {s : State}

theorem pend_ne_nil (h : MeetsBusError p s) : s.eng.pend ≠ [] := by
  obtain ⟨n, hn, -⟩ := h.fails
  exact List.ne_nil_of_mem hn

/-- A batch without a failing read leaves the unreadable pixel pending. -/
theorem keptByBatch (h : MeetsBusError p s) (hnone : failingReads p s.eng (chosenPixels p s) = []) :
    MeetsBusError p (accumulateBatch p s) where
  busy := h.busy
  berr := h.berr
  pendBound := fun n hn => h.pendBound n (List.mem_filter.1 hn).1
  fails := by
    obtain ⟨n, hn, elem, hfail⟩ := h.fails
    have hchosen : chosen p s n = false := by
      by_contra hc
      have hok := failingReads_eq_nil_iff.1 hnone n (mem_chosenPixels.2 ⟨hn, by simpa using hc⟩) elem
      simp [hfail] at hok
    exact ⟨n, List.mem_filter.2 ⟨hn, by simp [hchosen]⟩, elem, hfail⟩

/-- Its turn records a failing read, or accumulates a batch and leaves the failing read to come. -/
theorem turn_cases (h : MeetsBusError p s) :
    (∃ addr, FailingElement p s.eng addr ∧ engineTurn p s = recordBusError addr s)
      ∨ (MeetsBusError p (accumulateBatch p s) ∧ engineTurn p s = accumulateBatch p s) := by
  rw [engineTurn_of_pend h.busy h.berr h.pend_ne_nil]
  rcases engineStep_cases p s with ⟨addr, haddr, he⟩ | ⟨hnone, he⟩
  · obtain ⟨n, hn, elem, hfail, heq⟩ := mem_failingReads.1 haddr
    exact .inl ⟨addr, ⟨n, elem, h.pendBound n (mem_chosenPixels.1 hn).1, hfail, heq⟩, he⟩
  · exact .inr ⟨h.keptByBatch hnone, he⟩

/-- Enough turns end it with the completion of R153 at the address of one of its failing elements, in a state whose
STATUS and RESULT are still those of the start. -/
theorem completes {k : Nat} (h : MeetsBusError p s) (hk : s.eng.pend.length + 1 ≤ k) :
    ∃ t addr, runEngine p k s = completeBusError addr t ∧ t.status = s.status ∧ t.result = s.result
      ∧ FailingElement p s.eng addr := by
  induction k generalizing s with
  | zero => omega
  | succ k ih =>
    have hlength : 0 < s.eng.pend.length := List.length_pos_iff.2 h.pend_ne_nil
    rw [runEngine_succ]
    rcases h.turn_cases with ⟨addr, hfail, ht⟩ | ⟨hmeets, ht⟩
    · rw [ht]
      exact ⟨_, addr, runEngine_recordBusError h.busy (by omega) addr, rfl, rfl, hfail⟩
    · have hshrinks : (accumulateBatch p s).eng.pend.length < s.eng.pend.length := pend_shrinks p s h.pend_ne_nil
      rw [ht]
      exact ih hmeets (by omega)

end MeetsBusError

/-- Settles O52: the run ends in the completion with a bus error, which keeps RESULT and OVF. -/
theorem unreadableFootprintEndsInBusError : Obligations.UnreadableFootprintEndsInBusError := by
  unfold Obligations.UnreadableFootprintEndsInBusError
  intro p s hacc hread k hk
  have hturns : s.eng.pend.length + 1 ≤ k := by rwa [hacc.pend, List.length_range]
  obtain ⟨t, addr, hrun, hstatus, hresult, n, elem, hn, hfail, haddr⟩ :=
    (hacc.meetsBusError hread).completes hturns
  rw [hrun, completeBusError_status, completeBusError_result, completeBusError_errAddr, hstatus]
  exact ⟨rfl, hresult, n, elem, hn, hfail, haddr⟩

end Sys2Proof.Machine
end

section
/-! SUPPORT. The acceptance of a command word by an idle engine (41_catalog_dispatch.md R150, R155), the operations as
command words, and the run of an accepted operation to its result. -/

namespace Sys2Proof.Machine

/-- The whole state after an acceptance that ends in an error (60_exceptions.md R230). -/
theorem raiseError_beginAcceptance (code : ErrCode) (addr word : Word) (s : State) :
    raiseError code addr (beginAcceptance word s) =
      { s with
        cmd := word
        status := ⟨false, true, true, false, s.status.wign, code⟩
        errAddr := addr
        eng := { s.eng with pend := [] } } := rfl

/-- The whole state after an acceptance that latches (41_catalog_dispatch.md R150). -/
theorem latchCommand_beginAcceptance (w h : Nat) (d : Depth) (word : Word) (s : State) :
    latchCommand w h d (beginAcceptance word s) =
      { s with
        cmd := word
        status := ⟨true, false, false, false, s.status.wign, .none⟩
        errAddr := 0#32
        eng := ⟨w, h, d, s.refBase, s.refStride, s.wsrcBase, s.mskBase, 0#32, List.range (w * h), false, none⟩
        watch := .stable } := rfl

/-- The alignment checks as remainders, in the order of 60_exceptions.md R234. -/
theorem misalignedBase_eq (d : Depth) (s : State) :
    misalignedBase d s =
      if d = .wide ∧ s.refBase.toNat % 2 = 1 then some s.refBase
      else if s.wsrcBase.toNat % 4 ≠ 0 then some s.wsrcBase
      else if s.mskBase.toNat % 4 ≠ 0 then some s.mskBase
      else none := by
  simp only [misalignedBase, lowBit_eq, decide_eq_true_eq, ne_eq, lowTwoBits_eq]

theorem acceptCommand_aligned {w h : Nat} {d : Depth} {s : State} (hm : misalignedBase d s = none) (word : Word) :
    acceptCommand word (.op w h d) s = latchCommand w h d (beginAcceptance word s) := by
  simp only [acceptCommand, hm]

/-- The acceptance of an operation: the first base that fails its test is the error's, and with none the operation is
latched (60_exceptions.md R234). -/
theorem acceptCommand_op (w h : Nat) (d : Depth) (word : Word) (s : State) :
    acceptCommand word (.op w h d) s =
      if d = .wide ∧ s.refBase.toNat % 2 = 1 then raiseError .misaligned s.refBase (beginAcceptance word s)
      else if s.wsrcBase.toNat % 4 ≠ 0 then raiseError .misaligned s.wsrcBase (beginAcceptance word s)
      else if s.mskBase.toNat % 4 ≠ 0 then raiseError .misaligned s.mskBase (beginAcceptance word s)
      else latchCommand w h d (beginAcceptance word s) := by
  simp only [acceptCommand, misalignedBase_eq]
  split_ifs <;> rfl

/-- Settles O19: the decode's error, or the alignment checks and the latch. -/
theorem writeCmdAcceptsOrRejects : Obligations.WriteCmdAcceptsOrRejects := by
  unfold Obligations.WriteCmdAcceptsOrRejects
  intro word s hidle
  rw [exec_wrCmd, writeCommand_idle hidle]
  refine congrArg Host.Outcome.next ?_
  cases decodeCommand word s.ctrl.extEn with
  | reject code => exact raiseError_beginAcceptance code 0#32 word s
  | op w h d => simp only [acceptCommand_op, raiseError_beginAcceptance, latchCommand_beginAcceptance]

/-! The operations of the catalog are rows of the opcode table. -/

theorem baseOperations_rows : ∀ op ∈ baseOperations,
    ⟨op.2.1, op.2.2.1, op.2.2.2, op.1⟩ ∈ commandRows ∧ (op.2.1, op.2.2.1) ∈ baseShapes := by decide

theorem extOperations_rows : ∀ op ∈ extOperations,
    ⟨op.2.1, op.2.2.1, op.2.2.2, op.1⟩ ∈ commandRows ∧ (op.2.1, op.2.2.1) ∉ baseShapes := by decide

/-- The command word as one sum (30_encoding.md R101). -/
theorem commandWord_eq (w h : Nat) (d : Depth) :
    commandWord w h d = BitVec.ofNat 32 (w + 256 * h + if d = .wide then 65536 else 0) := by
  cases d <;> rfl

theorem exec_baseOperation {i : Instr} {w h : Nat} {d : Depth} (hop : (i, w, h, d) ∈ baseOperations) (s : State) :
    exec i s = .next (writeCommand (commandWord w h d) (.op w h d) s) := by
  obtain ⟨hrow, hbase⟩ := baseOperations_rows _ hop
  rw [exec_commandRow hrow, CommandRow.decoded, if_pos hbase]

theorem exec_extOperation {i : Instr} {w h : Nat} {d : Depth} (hop : (i, w, h, d) ∈ extOperations) (s : State) :
    exec i s = .next (writeCommand (commandWord w h d) (extOp w h d s) s) := by
  obtain ⟨hrow, hbase⟩ := extOperations_rows _ hop
  rw [exec_commandRow hrow, CommandRow.decoded, if_neg hbase, extOp]

/-- An operation that EXT_EN does not hold back is written with its own shape and depth. -/
theorem exec_enabledOperation {i : Instr} {w h : Nat} {d : Depth} {s : State}
    (hop : (i, w, h, d) ∈ baseOperations ++ extOperations)
    (hen : (i, w, h, d) ∈ extOperations → s.ctrl.extEn = true) :
    exec i s = .next (writeCommand (commandWord w h d) (.op w h d) s) := by
  rcases List.mem_append.1 hop with hbase | hext
  · exact exec_baseOperation hbase s
  · rw [exec_extOperation hext, extOp, if_pos (hen hext)]

/-- An idle engine with aligned bases latches an operation that EXT_EN does not hold back. -/
theorem exec_operation_latches {i : Instr} {w h : Nat} {d : Depth} {s : State}
    (hop : (i, w, h, d) ∈ baseOperations ++ extOperations)
    (hen : (i, w, h, d) ∈ extOperations → s.ctrl.extEn = true) (hidle : s.status.busy = false)
    (hm : misalignedBase d s = none) :
    exec i s = .next (latchCommand w h d (beginAcceptance (commandWord w h d) s)) := by
  rw [exec_enabledOperation hop hen, writeCommand_idle hidle, acceptCommand_aligned hm]

/-- A BASE operation is no EXT operation, so EXT_EN does not hold it back. -/
theorem not_mem_extOperations {i : Instr} {w h : Nat} {d : Depth} (hop : (i, w, h, d) ∈ baseOperations) :
    (i, w, h, d) ∉ extOperations :=
  fun hext => (extOperations_rows _ hext).2 (baseOperations_rows _ hop).2

/-- Settles O14: aligned bases pass the checks, and what is left of the acceptance is the latch. -/
theorem baseCommandsAreAccepted : Obligations.BaseCommandsAreAccepted := by
  unfold Obligations.BaseCommandsAreAccepted
  intro i w h d hop s hidle href hwsrc hmsk
  have hm : misalignedBase d s = none := misalignedBase_none.2 ⟨href, hwsrc, hmsk⟩
  rw [exec_operation_latches (List.mem_append_left _ hop) (absurd · (not_mem_extOperations hop)) hidle hm,
    latchCommand_beginAcceptance, commandWord_eq]

/-- Settles O15: with EXT_EN = 1 an EXT operation is latched as a BASE one is. -/
theorem extCommandsAreAcceptedWhenEnabled : Obligations.ExtCommandsAreAcceptedWhenEnabled := by
  unfold Obligations.ExtCommandsAreAcceptedWhenEnabled
  intro i w h d hop s hidle hen href hwsrc hmsk
  have hm : misalignedBase d s = none := misalignedBase_none.2 ⟨href, hwsrc, hmsk⟩
  rw [exec_operation_latches (List.mem_append_right _ hop) (fun _ => hen) hidle hm,
    latchCommand_beginAcceptance, commandWord_eq]

/-- Settles O16: with EXT_EN = 0 an EXT operation decodes to a rejection, before any alignment check. -/
theorem extCommandsAreRejectedWhenDisabled : Obligations.ExtCommandsAreRejectedWhenDisabled := by
  unfold Obligations.ExtCommandsAreRejectedWhenDisabled
  intro i w h d hop s hidle hdis
  have hdec : extOp w h d s = .reject .unsupportedShape := by simp [extOp, hdis]
  rw [exec_extOperation hop, writeCommand_idle hidle, hdec, acceptCommand, raiseError_beginAcceptance,
    commandWord_eq]

/-- The latch is the state in which a command has just been accepted. -/
theorem justAccepted_latchCommand (w h : Nat) (d : Depth) (s : State) : JustAccepted (latchCommand w h d s) :=
  ⟨rfl, rfl, rfl, rfl, rfl⟩

/-- Settles O51: the operation is latched, and the engine computes the kernel of what was latched (O50). -/
theorem operationRunsToItsResult : Obligations.OperationRunsToItsResult := by
  unfold Obligations.OperationRunsToItsResult
  rintro p i w h d hop s hidle hen href hwsrc hmsk e rfl hread hout
  have hm : misalignedBase d s = none := misalignedBase_none.2 ⟨href, hwsrc, hmsk⟩
  refine ⟨_, exec_operation_latches hop hen hidle hm, fun k hk => ?_⟩
  obtain ⟨hstatus, hresult, -, herrAddr, -⟩ :=
    engineComputesTheKernel p _ (justAccepted_latchCommand w h d (beginAcceptance (commandWord w h d) s)) rfl hread
      hout k hk
  exact ⟨hstatus, herrAddr, hresult⟩

end Sys2Proof.Machine
end

section
/-! SUPPORT. The step where the list of inputs gives the engine its turn (log entry 2), and that no instruction
stops. -/

namespace Sys2Proof.Machine

/-- The step with no input left. -/
theorem step_nil {s : State} (h : s.inputs = []) : step s = .next (engineTurn platform s) := by
  simp only [step, h]

/-- Settles O9: with no input the step is the engine's turn, and so is the input that gives it one. -/
theorem stepGivesTheEngineItsTurn : Obligations.StepGivesTheEngineItsTurn := by
  unfold Obligations.StepGivesTheEngineItsTurn
  exact fun s => ⟨step_nil, fun rest h => step_cons h⟩

/-- Settles O29: every instruction has one of the effects. -/
theorem everyInstructionRuns : Obligations.EveryInstructionRuns := by
  unfold Obligations.EveryInstructionRuns
  intro i s
  obtain ⟨t, ht, -⟩ := exec_effect i s
  exact ⟨t, ht⟩

end Sys2Proof.Machine
end

section
/-! SUPPORT. The step that takes a request off the list of inputs: it runs the instruction the request decodes to, or
refuses an access outside the format (42_host_access.md R210, R212). -/

namespace Sys2Proof.Machine

theorem step_of_decode {s : State} {r : Request} {rest : List Input} {i : Instr}
    (hinputs : s.inputs = .request r :: rest) (hdec : decode r = .ok i) :
    step s = exec i { s with inputs := rest } := by
  rw [step_cons hinputs, runInput, runRequest_of_decode hdec]

theorem step_of_decode_error {s : State} {r : Request} {rest : List Input} {e : DecodeError}
    (hinputs : s.inputs = .request r :: rest) (hdec : decode r = .error e) : step s = .refused (refusalOf e) := by
  rw [step_cons hinputs]
  simp only [runInput, runRequest, hdec]

/-! The three refusals of the decoder, in the order of log entry 19. -/

theorem decodeAccess_of_size {size : Nat} (hsize : size ≠ 4) (write : Bool) (offset : Nat) (data : Word) :
    decodeAccess write offset size data = .error .accessSize := by
  simp [decodeAccess, hsize]

theorem decodeAccess_unaligned {offset : Nat} (halign : offset % 4 ≠ 0) (write : Bool) (data : Word) :
    decodeAccess write offset 4 data = .error .accessUnaligned := by
  simp [decodeAccess, halign]

theorem decodeAccess_outsideWindow {offset : Nat} (halign : offset % 4 = 0) (hwindow : 64 ≤ offset) (write : Bool)
    (data : Word) : decodeAccess write offset 4 data = .error .accessOutsideWindow := by
  simp [decodeAccess, halign, hwindow]

/-- Settles O7: the step decodes the request and executes its instruction on what is left of the list. -/
theorem stepRunsDecodedInstruction : Obligations.StepRunsDecodedInstruction := by
  unfold Obligations.StepRunsDecodedInstruction
  exact fun _ _ _ _ => step_of_decode

/-- Settles O8: each of the decoder's refusals is the step's; the order of the names is the model's (log entry 19). -/
theorem outOfFormatAccessIsRefused : Obligations.OutOfFormatAccessIsRefused := by
  unfold Obligations.OutOfFormatAccessIsRefused
  refine fun s write offset size data rest hinputs => ⟨fun hsize => ?size, ?aligned, ?window⟩
  case size => exact step_of_decode_error hinputs (decodeAccess_of_size hsize write offset data)
  case aligned =>
    rintro rfl halign
    exact step_of_decode_error hinputs (decodeAccess_unaligned halign write data)
  case window =>
    rintro rfl halign hwindow
    exact step_of_decode_error hinputs (decodeAccess_outsideWindow halign hwindow write data)

end Sys2Proof.Machine
end

section
/-! SUPPORT. What the rows of host reads and writes do (42_host_access.md R200 to R211): the writes behind the busy
guard, the write that clears STATUS bits, the writes without effect, the reads. -/

namespace Sys2Proof.Machine

/-! The register writes that a busy engine ignores. -/

theorem exec_wrCtrl (data : Word) (s : State) :
    exec (.wrCtrl data) s = .next (guardedWrite (fun s => { s with ctrl := ctrlWritten platform data }) s) := rfl

theorem exec_wrRefBase (data : Word) (s : State) :
    exec (.wrRefBase data) s = .next (guardedWrite (fun s => { s with refBase := data }) s) := rfl

theorem exec_wrRefStride (data : Word) (s : State) :
    exec (.wrRefStride data) s = .next (guardedWrite (fun s => { s with refStride := data }) s) := rfl

theorem exec_wrWsrcBase (data : Word) (s : State) :
    exec (.wrWsrcBase data) s = .next (guardedWrite (fun s => { s with wsrcBase := data }) s) := rfl

theorem exec_wrMskBase (data : Word) (s : State) :
    exec (.wrMskBase data) s = .next (guardedWrite (fun s => { s with mskBase := data }) s) := rfl

/-- The writes that 42_host_access.md R201 has a busy engine ignore, CMD's in either request form. -/
def guardedWrites (data : Word) : List Instr :=
  [.wrCtrl data, .wrCmd data, .wrRefBase data, .wrRefStride data, .wrWsrcBase data, .wrMskBase data,
    decodeCommandWord data]

/-- Each of them performs some write behind the busy guard. -/
theorem exec_guardedWrites (data : Word) (s : State) :
    ∀ i ∈ guardedWrites data, ∃ write, exec i s = .next (guardedWrite write s) := by
  simp only [guardedWrites, List.forall_mem_cons, List.not_mem_nil, IsEmpty.forall_iff, implies_true, and_true]
  exact ⟨⟨_, exec_wrCtrl data s⟩, ⟨_, exec_wrCmd data s⟩, ⟨_, exec_wrRefBase data s⟩, ⟨_, exec_wrRefStride data s⟩,
    ⟨_, exec_wrWsrcBase data s⟩, ⟨_, exec_wrMskBase data s⟩,
    ⟨_, (exec_decodeCommandWord data s).trans (exec_wrCmd data s)⟩⟩

/-- The writes to the read-only registers and to the reserved offsets (42_host_access.md R209, R211). -/
def ineffectiveWrites (data : Word) : List Instr :=
  [.wrCap data, .wrResult data, .wrErraddr data, .wrReserved28 data, .wrReserved2C data, .wrReserved30 data,
    .wrReserved34 data, .wrReserved38 data, .wrReserved3C data]

/-- They do not look at BUSY, and so set no WIGN either. -/
theorem exec_ineffectiveWrites (data : Word) (s : State) : ∀ i ∈ ineffectiveWrites data, exec i s = .next s := by
  intro i hi
  fin_cases hi <;> rfl

/-- Settles O20: the busy guard ignores its writes, and the ineffective ones have no guard. -/
theorem busyWritesAreIgnoredAndSetWign : Obligations.BusyWritesAreIgnoredAndSetWign := by
  unfold Obligations.BusyWritesAreIgnoredAndSetWign
  refine fun s data hbusy => ⟨fun i hi => ?_, exec_ineffectiveWrites data s⟩
  obtain ⟨write, h⟩ := exec_guardedWrites data s i hi
  rw [h, guardedWrite_busy hbusy, ignoreWrite]

/-- A STATUS read returns the word of STATUS, and may end the watch (20_memory.md R76). -/
theorem exec_rdStatus (s : State) :
    exec .rdStatus s = .next { s with
      readData := statusWord s.status
      watch := if s.status.busy = false ∧ s.status.done = true then .off else s.watch } :=
  congrArg Host.Outcome.next (observeStatus_eq (returnData (statusWord s.status) s))

/-- Settles O21: nine reads return their register's word; the STATUS read also observes. -/
theorem readsReturnTheirRegister : Obligations.ReadsReturnTheirRegister := by
  unfold Obligations.ReadsReturnTheirRegister
  exact fun s => ⟨rfl, rfl, exec_rdStatus s, rfl, rfl, rfl, rfl, rfl, rfl, rfl⟩

/-- Settles O24: on an idle engine the guard lets the write through. -/
theorem writeCtrlSetsItsFields : Obligations.WriteCtrlSetsItsFields := by
  unfold Obligations.WriteCtrlSetsItsFields
  intro s data hidle
  rw [exec_wrCtrl, guardedWrite_idle hidle]
  rfl

/-- STATUS after a write one to clear, as one choice for each bit (42_host_access.md R203). -/
theorem statusCleared_eq (data : Word) (st : Status) :
    statusCleared data st =
      { busy := st.busy
        done := if data.getLsbD 1 then false else st.done
        err := if data.getLsbD 2 then false else st.err
        ovf := if data.getLsbD 3 then false else st.ovf
        wign := if data.getLsbD 4 then false else st.wign
        errCode := if data.getLsbD 2 then .none else st.errCode } := by
  have hclear (old clear : Bool) : (old && !clear) = if clear then false else old := by cases clear <;> simp
  simp only [statusCleared, hclear]

theorem exec_wrStatus (data : Word) (s : State) :
    exec (.wrStatus data) s = .next { s with
      status := statusCleared data s.status
      errAddr := if data.getLsbD 2 then 0#32 else s.errAddr } := rfl

/-- Settles O25: the write has no guard, and clears bit by bit. -/
theorem writeStatusClearsBitsWrittenOne : Obligations.WriteStatusClearsBitsWrittenOne := by
  unfold Obligations.WriteStatusClearsBitsWrittenOne
  intro s data
  rw [exec_wrStatus, statusCleared_eq]

/-- Settles O26: on an idle engine the guard lets each of the four writes through. -/
theorem operandWritesStoreTheData : Obligations.OperandWritesStoreTheData := by
  unfold Obligations.OperandWritesStoreTheData
  intro s data hidle
  rw [exec_wrRefBase, exec_wrRefStride, exec_wrWsrcBase, exec_wrMskBase]
  simp only [guardedWrite_idle hidle, and_self]

/-- Settles O27: the keys are those of the encoding, which O1 reads back. -/
theorem readOnlyWritesHaveNoEffect : Obligations.ReadOnlyWritesHaveNoEffect := by
  unfold Obligations.ReadOnlyWritesHaveNoEffect
  intro s data
  have hexec := exec_ineffectiveWrites data s
  exact ⟨decodeInvertsEncode (.wrCap data) rfl, hexec _ (by simp [ineffectiveWrites]),
    decodeInvertsEncode (.wrResult data) rfl, hexec _ (by simp [ineffectiveWrites]),
    decodeInvertsEncode (.wrErraddr data) rfl, hexec _ (by simp [ineffectiveWrites])⟩

/-- The reserved offsets with their read row and their write row (42_host_access.md R211). -/
def reservedOffsets (data : Word) : List (Nat × Instr × Instr) :=
  [(0x28, .rdReserved28, .wrReserved28 data), (0x2C, .rdReserved2C, .wrReserved2C data),
    (0x30, .rdReserved30, .wrReserved30 data), (0x34, .rdReserved34, .wrReserved34 data),
    (0x38, .rdReserved38, .wrReserved38 data), (0x3C, .rdReserved3C, .wrReserved3C data)]

/-- The two keys of a reserved offset decode to its rows; a read row drops the data (30_encoding.md R98). -/
theorem decode_reservedOffsets (data : Word) : ∀ row ∈ reservedOffsets data,
    decode (.access false row.1 4 data) = .ok row.2.1 ∧ decode (.access true row.1 4 data) = .ok row.2.2 := by
  intro row hrow
  fin_cases hrow <;> dsimp only <;> exact ⟨rfl, rfl⟩

theorem exec_reservedOffsets_read (data : Word) (s : State) : ∀ row ∈ reservedOffsets data,
    exec row.2.1 s = .next (returnData 0#32 s) := by
  intro row hrow
  fin_cases hrow <;> rfl

theorem reservedOffsets_write_ineffective (data : Word) : ∀ row ∈ reservedOffsets data,
    row.2.2 ∈ ineffectiveWrites data := by
  simp [reservedOffsets, ineffectiveWrites]

/-- Settles O28: each row is decoded from its key; the read returns 0, and the write is one of those without effect. -/
theorem reservedOffsetsReadZeroIgnoreWrites : Obligations.ReservedOffsetsReadZeroIgnoreWrites := by
  unfold Obligations.ReservedOffsetsReadZeroIgnoreWrites
  intro s data row hrow
  obtain ⟨hread, hwrite⟩ := decode_reservedOffsets data row hrow
  exact ⟨hread, exec_reservedOffsets_read data s row hrow, hwrite,
    exec_ineffectiveWrites data s _ (reservedOffsets_write_ineffective data row hrow)⟩

end Sys2Proof.Machine
end

section
/-! SUPPORT. The acceptances that end at once with an error: a misaligned base in the order of 60_exceptions.md R234,
and the rejection rows (R230, R232, R233). -/

namespace Sys2Proof.Machine

/-- The base reported is the first that breaks its alignment rule: each clause rules out the ones before it
(60_exceptions.md R234). -/
theorem misalignedBase_eq_some_iff {d : Depth} {s : State} {base : Word} :
    misalignedBase d s = some base ↔
      (d = .wide ∧ s.refBase.toNat % 2 = 1 ∧ base = s.refBase)
        ∨ ((d = .narrow ∨ s.refBase.toNat % 2 = 0) ∧ s.wsrcBase.toNat % 4 ≠ 0 ∧ base = s.wsrcBase)
        ∨ ((d = .narrow ∨ s.refBase.toNat % 2 = 0) ∧ s.wsrcBase.toNat % 4 = 0 ∧ s.mskBase.toNat % 4 ≠ 0
            ∧ base = s.mskBase) := by
  have href : (d = .narrow ∨ s.refBase.toNat % 2 = 0) ↔ ¬(d = .wide ∧ s.refBase.toNat % 2 = 1) := by
    cases d <;> simp
  rw [misalignedBase_eq, href, ← and_assoc (a := d = .wide)]
  simp only [eq_comm (a := base)]
  split_ifs with hrefBad hwsrcBad hmskBad
  · simp [hrefBad]
  · simp [hrefBad, hwsrcBad]
  · simp [hrefBad, not_not.1 hwsrcBad, hmskBad]
  · simp [hrefBad, not_not.1 hwsrcBad, not_not.1 hmskBad]

theorem acceptCommand_misaligned {w h : Nat} {d : Depth} {s : State} {base : Word}
    (hm : misalignedBase d s = some base) (word : Word) :
    acceptCommand word (.op w h d) s = raiseError .misaligned base (beginAcceptance word s) := by
  simp only [acceptCommand, hm]

/-- Settles O17: an operation that EXT_EN does not hold back reaches the alignment checks, and the first base that
fails is the error's. -/
theorem misalignedBaseIsReportedInOrder : Obligations.MisalignedBaseIsReportedInOrder := by
  unfold Obligations.MisalignedBaseIsReportedInOrder
  intro i w h d hop s hidle hen base hbase
  have hm : misalignedBase d s = some base := misalignedBase_eq_some_iff.2 hbase
  rw [exec_enabledOperation hop hen, writeCommand_idle hidle, acceptCommand_misaligned hm,
    raiseError_beginAcceptance, commandWord_eq]

/-- A word that Decode rejects, written to CMD on an idle engine: the whole next state (60_exceptions.md R230). -/
theorem writeCommand_reject_idle {s : State} (hidle : s.status.busy = false) (word : Word) (code : ErrCode) :
    writeCommand word (.reject code) s =
      { s with
        cmd := word
        status := ⟨false, true, true, false, s.status.wign, code⟩
        errAddr := 0#32
        eng := { s.eng with pend := [] } } := by
  rw [writeCommand_idle hidle, acceptCommand, raiseError_beginAcceptance]

/-- The rejections of RESERVED_CMD are the rows of the reserved bits. -/
theorem reservedRejections_eq : reservedRejections = reservedRows.map Prod.snd := rfl

theorem exec_reservedRejection {row : Word → Instr} (h : row ∈ reservedRejections) (word : Word) (s : State) :
    exec (row word) s = .next (writeCommand word (.reject .reservedCmd) s) := by
  rw [reservedRejections_eq] at h
  obtain ⟨reserved, hreserved, rfl⟩ := List.mem_map.1 h
  exact exec_reservedRow hreserved word s

theorem exec_rejectUnsupportedShape (word : Word) (s : State) :
    exec (.rejectUnsupportedShape word) s = .next (writeCommand word (.reject .unsupportedShape) s) := rfl

/-- Settles O18: every rejection row writes its word to CMD with its own error. -/
theorem rejectedWordsEndWithTheirError : Obligations.RejectedWordsEndWithTheirError := by
  unfold Obligations.RejectedWordsEndWithTheirError
  refine ⟨fun row hrow word s hidle => ?_, fun word s hidle => ?_⟩
  · rw [exec_reservedRejection hrow, writeCommand_reject_idle hidle]
  · rw [exec_rejectUnsupportedShape, writeCommand_reject_idle hidle]

end Sys2Proof.Machine
end

section
/-! SUPPORT. Reset (70_reset_and_hazards.md R260 to R263): what it leaves in the registers and the internal items,
what the reset input adds to that, and the invariant after it. -/

namespace Sys2Proof.Machine

/-- Settles O12: the values State.reset is made of; IRQ is low since DONE is 0. -/
theorem stateAfterReset : Obligations.StateAfterReset := by
  unfold Obligations.StateAfterReset
  exact ⟨rfl, rfl, rfl, rfl, rfl, rfl, rfl, rfl, rfl, rfl, irq_of_not_done rfl⟩

/-- The reset input acts on the state it has been taken from, whatever that state is. -/
theorem step_of_reset {s : State} {rest : List Input} (h : s.inputs = .reset :: rest) :
    step s = .next (engineReset { s with inputs := rest }) := by
  rw [step_cons h, runInput]

/-- IRQ after the reset input is IRQ after reset: it depends on CTRL and STATUS alone. -/
@[simp] theorem engineReset_irq (s : State) : (engineReset s).irq = State.reset.irq := rfl

/-- Settles O11: the registers and internal items are those of State.reset, the rest is kept. -/
theorem resetInputResetsTheEngine : Obligations.ResetInputResetsTheEngine := by
  unfold Obligations.ResetInputResetsTheEngine
  intro s rest hinputs
  obtain ⟨hctrl, hstatus, hcmd, hresult, herrAddr, hrefBase, hrefStride, hwsrcBase, hmskBase, heng, hirq⟩ :=
    stateAfterReset
  refine ⟨_, step_of_reset hinputs, ?_⟩
  simp [hctrl, hstatus, hcmd, hresult, herrAddr, hrefBase, hrefStride, hwsrcBase, hmskBase, heng, hirq]

/-- Settles O58: memory is empty, nothing is in flight or pending, and every hardwired bit is 0. -/
theorem resetMeetsTheInvariant : Obligations.ResetMeetsTheInvariant := by
  unfold Obligations.ResetMeetsTheInvariant
  exact fun _ => {
    memory := reset_mem_wf
    extHardwired := fun _ => rfl
    ovfHardwired := fun _ => rfl
    errCode := iff_of_true rfl rfl
    errAddr := fun _ => rfl
    ovfNoError := nofun
    busyClear := nofun
    idle := fun _ => rfl
    shape := nofun
    aligned := nofun
    pendSorted := List.Pairwise.nil
    pendBound := nofun
    watched := nofun
  }

end Sys2Proof.Machine
end
